-- ==== Sys2Proof/Word.lean ====
section
/-! DEFINITION. The words of the VA24: bytes of the control link, part time, and the four-fold index of sessions and slots. -/

namespace Sys2Proof

/-- One character's eight data bits (R1). -/
abbrev Byte := BitVec 8

/-- Part time: the 32-bit millisecond count, which wraps (R25). -/
abbrev PartTime := BitVec 32

/-- A contention code, 0 to 7, CC2 its most significant bit (R28). -/
abbrev Code := BitVec 3

/-- The numbers 0 to 3, which name both the sessions (R36) and the places of the slot pool (R127). -/
inductive Idx4 where
  | i0 | i1 | i2 | i3
  deriving DecidableEq, Repr

/-- A session number, 0 to 3. -/
abbrev SessionId := Idx4

/-- A slot number, 0 to 3. -/
abbrev SlotId := Idx4

/-- The number an index stands for. -/
def Idx4.toNat : Idx4 → Nat
  | .i0 => 0
  | .i1 => 1
  | .i2 => 2
  | .i3 => 3

/-- All four indices in rising order. -/
def Idx4.all : List Idx4 := [.i0, .i1, .i2, .i3]

/-- Four like things, one for each index. -/
structure Four (α : Type) where
  a0 : α
  a1 : α
  a2 : α
  a3 : α
  deriving DecidableEq, Repr

namespace Four

/-- The same thing four times. -/
def const {α : Type} (a : α) : Four α := ⟨a, a, a, a⟩

/-- Four things, given one by one for the indices. -/
def ofFn {α : Type} (f : Idx4 → α) : Four α := ⟨f .i0, f .i1, f .i2, f .i3⟩

/-- The thing at an index. -/
def get {α : Type} (f : Four α) : Idx4 → α
  | .i0 => f.a0
  | .i1 => f.a1
  | .i2 => f.a2
  | .i3 => f.a3

/-- The four with the thing at one index replaced. -/
def set {α : Type} (f : Four α) (i : Idx4) (a : α) : Four α :=
  match i with
  | .i0 => { f with a0 := a }
  | .i1 => { f with a1 := a }
  | .i2 => { f with a2 := a }
  | .i3 => { f with a3 := a }

end Four

end Sys2Proof
end

