-- ==== Sys2Proof/Syntax.lean ====
section
/-! DEFINITION. The commands of the VA24, one constructor per row of spec/opcode_table.json, and the operands they carry. -/

namespace Sys2Proof

/-- The levels of the contention lines as the sampling instant reads them, high as true (R28). A line that changes
level at that instant may be read at either level: the operand is the level read. -/
structure CcLines where
  cc2 : Bool
  cc1 : Bool
  cc0 : Bool
  deriving DecidableEq, Repr

/-- How PART_TIME_ADVANCE is taken. The advance reads the lines at one instant (R28); dealing with the sample (R29)
may come before or after the other events of the same part time (R33), which the three forms allow to be said. -/
inductive Advance where
  /-- Part time advances and the sample is dealt with at once. -/
  | atOnce (cc : CcLines)
  /-- Part time advances and the sample read is held for a later `settle` at this part time. -/
  | hold (cc : CcLines)
  /-- The held sample is dealt with now; part time does not advance. -/
  | settle
  deriving DecidableEq, Repr

/-- What every request carries beside its payload: its TARGET byte, and what the line added to its SUM byte (0 on a
clean line; anything else makes the checksum fail, R7). -/
structure Wire where
  target : Byte
  sumError : Byte
  deriving DecidableEq, Repr

/-- The settings as CONFIGURE carries them, field by field (01 §1.11, CONFIGURE payload). -/
structure ConfigFields where
  slotCount : Byte
  window : BitVec 16
  fastShift : Byte
  slowShift : Byte
  margin0 : BitVec 16
  margin1 : BitVec 16
  margin2 : BitVec 16
  margin3 : BitVec 16
  margin4 : BitVec 16
  margin5 : BitVec 16
  margin6 : BitVec 16
  opening : BitVec 32
  fit : BitVec 16
  activityTimeout : BitVec 16
  retryLimit : Byte
  upHold : Byte
  preemption : Byte
  abandonment : Byte
  deriving DecidableEq, Repr

/-- The programme as OPEN carries it, field by field (01 §1.11, OPEN payload). The rung-count byte and the number of
bitrates that follow are separate, as they are on the line (R23). -/
structure OpenFields where
  mode : Byte
  rungCount : Byte
  segmentMs : BitVec 16
  firstSegment : BitVec 32
  lastSegment : BitVec 32
  weight : Byte
  cap : Byte
  floor : Byte
  startRung : Byte
  markL : BitVec 32
  markT : BitVec 32
  markH : BitVec 32
  markS0 : BitVec 32
  bitrates : List (BitVec 16)
  deriving DecidableEq, Repr

/-- The commands: one constructor per row of spec/opcode_table.json, in the table's order. -/
inductive Instr where
  /-- PIN_RESET: NRST is driven low (R180). -/
  | pinReset
  /-- NRST_RELEASE: NRST is released with BAUD at the level given, high as true (R1, R180). -/
  | nrstRelease (baudHigh : Bool)
  /-- RDY_FIRST_RISE: the RDY expiry falls (R180). -/
  | rdyFirstRise
  /-- PART_TIME_ADVANCE: part time advances by 1 and the contention lines are sampled (R25, R28). -/
  | partTimeAdvance (how : Advance)
  /-- INTER_BYTE_GAP_EXPIRY: the gap expiry falls (R4). -/
  | interByteGapExpiry
  /-- HELLO (R22). -/
  | hello (w : Wire)
  /-- CONFIGURE (R175). -/
  | configure (w : Wire) (c : ConfigFields)
  /-- RESET_SESSIONS: RESET carrying scope 1 (R178). -/
  | resetSessions (w : Wire)
  /-- RESET_ALL: RESET carrying scope 2 (R179). -/
  | resetAll (w : Wire)
  /-- GRANT_HOLD: GRANT_HOLD carrying 1 (R136). -/
  | grantHold (w : Wire)
  /-- GRANT_HOLD_RELEASE: GRANT_HOLD carrying 0 (R136). -/
  | grantHoldRelease (w : Wire)
  /-- QUERY_LINK (R98). -/
  | queryLink (w : Wire)
  /-- HISTORY: start index and count − 1 (R99). -/
  | history (w : Wire) (start countLessOne : Byte)
  /-- OPEN (R45). -/
  | openSession (w : Wire) (o : OpenFields)
  /-- CLOSE (R47). -/
  | closeSession (w : Wire)
  /-- PLAY (R73). -/
  | play (w : Wire)
  /-- PAUSE (R73). -/
  | pause (w : Wire)
  /-- SEEK: segment number (R78). -/
  | seek (w : Wire) (segment : BitVec 32)
  /-- LIMITS: cap, floor, weight (R51). -/
  | limits (w : Wire) (cap floor weight : Byte)
  /-- PLAYOUT: level in ms (R76). -/
  | playout (w : Wire) (level : BitVec 32)
  /-- EDGE: segment number (R80). -/
  | edge (w : Wire) (segment : BitVec 32)
  /-- QUERY_SESSION (R53). -/
  | querySession (w : Wire)
  /-- START: tag and size (R149). -/
  | fetchStart (w : Wire) (tag : Byte) (size : BitVec 32)
  /-- PROGRESS: tag and cumulative count (R150). -/
  | fetchProgress (w : Wire) (tag : Byte) (count : BitVec 32)
  /-- DONE: tag and total (R151). -/
  | fetchDone (w : Wire) (tag : Byte) (total : BitVec 32)
  /-- FAIL: tag and reason (R154). -/
  | fetchFail (w : Wire) (tag reason : Byte)
  /-- ACTIVITY_EXPIRY of a session's fetch record (R156). -/
  | activityExpiry (i : SessionId)
  /-- STALL_EXPIRY of a session (R66). -/
  | stallExpiry (i : SessionId)
  /-- LOW_EXPIRY of a session (R67). -/
  | lowExpiry (i : SessionId)
  /-- REFILL_EXPIRY of a session (R68). -/
  | refillExpiry (i : SessionId)
  /-- WINDOW_EXPIRY (R88). -/
  | windowExpiry
  /-- FRAME_SENT: the transmitter's frame ends, or it leaves idle (R19). -/
  | frameSent
  /-- CHARACTER_RECEIVED: a character arrives on RXD, its stop bit high as true (R1, R3). -/
  | characterReceived (stopHigh : Bool) (b : Byte)
  deriving DecidableEq, Repr

end Sys2Proof
end

