-- ==== Sys2Proof/Decode.lean ====
section
/-! DEFINITION. The table's rows give no bits (every row of spec/opcode_table.json has an empty "fields" and no "fixed"),
so no word spells a command. The frames that spell the requests on the line are read by the receiver
(Sys2Proof/Machine/Link.lean). -/

namespace Sys2Proof

/-- The command that a word of the table's bits spells: none, since no row of the table gives bits. -/
def decodeTableWord (_nbits _w : Nat) : Option Instr := none

end Sys2Proof
end

