-- ==== Sys2Proof/Config.lean ====
section
/-! DEFINITION. The part's fixed numbers. The spec leaves no value of an operation open, so there is no free value here. -/

namespace Sys2Proof.Config

/-- The SYNC byte (01 §1.2). -/
def sync : Byte := 0xC3#8

/-- The part code "VA24" (R22). -/
def partCode : List Byte := [0x56#8, 0x41#8, 0x32#8, 0x34#8]

/-- The revision byte (R22). -/
def revision : Byte := 0x11#8

/-- Sessions the part holds (R22, R36). -/
def maxSessions : Nat := 4

/-- Rungs a ladder may have (R22, R39). -/
def maxRungs : Nat := 8

/-- Fetch slots the part can have (R22, R127). -/
def maxSlots : Nat := 4

/-- Records the sample ring holds (R22, R90). -/
def ringSize : Nat := 12

/-- Replies the reply queue holds (R12). -/
def replyRoom : Nat := 4

/-- The gap expiry is set this many ms after a byte of a frame (R4). -/
def gapMs : Nat := 11

/-- RDY first rises at this part time (R180). -/
def rdyRiseAt : PartTime := 2#32

/-- The highest level, and the highest mark (R41, R60). -/
def maxLevel : Nat := 120000

/-- The highest sample value in kbit/s (R89). -/
def maxSample : Nat := 1000000

/-- Windows after which a sample forms from little busy time or the accumulator is cleared (R88). -/
def maxAge : Nat := 8

/-- The busy ms that are enough at the eighth window (R88). -/
def enoughBusy : Nat := 20

/-- The highest LEN that a kind can require (01 §1.2, R3; log 21). -/
def maxLength : Nat := 240

/-- The segment-number field that says "absent", and the largest four-byte value (R24, R43). -/
def absentSegment : Nat := 0xFFFFFFFF

/-- TARGET of the device (01 §1.2). -/
def deviceTarget : Byte := 0x0E#8

/-- TARGET of a broadcast (01 §1.2). -/
def allTarget : Byte := 0x0F#8

end Sys2Proof.Config
end

