-- ==== Sys2Proof/Machine/State.lean ====
section
/-! DEFINITION. The state of the VA24 as plain data, block by block (00_scope.md, "Block overview"), the reasons a step
can stop, and the state held while NRST is low. -/

namespace Sys2Proof.Machine

open Sys2Proof

/-- Why the machine stops with a fault: the spec gives the part no such event, so no constructor, and no meaning can
raise one. -/
inductive Fault where
  deriving DecidableEq, Repr

/-- Why a command is refused. -/
inductive Refusal where
  /-- A command without a meaning yet, raised by an arm of `exec` alone. No arm raises it. Safe. -/
  | notModelled (mnemonic : String)
  deriving DecidableEq, Repr

/-- The line rate of both directions (R1). -/
inductive LineRate where
  | baud921600
  | baud3000000
  deriving DecidableEq, Repr

/-- The receiver's state, named after the field it expects next, with the bytes of the frame taken so far (01 §1.3). -/
inductive Framer where
  | hunt
  | kind
  | target (kind : Byte)
  | len (kind target : Byte)
  | payload (kind target len : Byte) (taken : List Byte)
  | sum (kind target len : Byte) (taken : List Byte)
  deriving DecidableEq, Repr

/-- The result codes of STATUS1 (R11). -/
inductive Status1 where
  | ok | badTarget | notOpen | alreadyOpen | badField | wrongState | staleTag | busy | clamped | notExecuted
  deriving DecidableEq, Repr

/-- A reply in the reply queue: bits 0 to 2 of STATUS0 are fixed, bit 3 is filled in when transmission begins (R10). -/
structure Reply where
  kind : Byte
  target : Byte
  status0 : Byte
  status1 : Status1
  fields : List Byte
  deriving DecidableEq, Repr

/-- The reason a CANCEL carries (R14, R158). -/
inductive CancelReason where
  | abandon | timeout | preempt
  deriving DecidableEq, Repr

/-- What a CANCEL captures at its raise (R14). -/
structure CancelContent where
  tag : Byte
  reason : CancelReason
  deriving DecidableEq, Repr

/-- A session's pending set: each kind at most once, CANCEL and STALL with the content captured (R14). -/
structure NoticeSet where
  cancel : Option CancelContent
  order : Bool
  skip : Bool
  stall : Option PartTime
  ready : Bool
  fault : Bool
  deriving DecidableEq, Repr

/-- The empty pending set. -/
def NoticeSet.empty : NoticeSet := ⟨none, false, false, none, false, false⟩

/-- The five notice sources (R14), which are also the values of the rotation pointer (R20). -/
inductive NoticeSource where
  | device
  | session (i : SessionId)
  deriving DecidableEq, Repr

/-- The transmitter: idle, or sending the frame whose bytes are held (R19). -/
inductive Transmitter where
  | idle
  | reply (frame : List Byte)
  | notice (frame : List Byte)
  deriving DecidableEq, Repr

/-- The state the Control Link Unit owns. `replyBegun` says that a reply has begun transmission since the release of NRST: the
first frame the part sends is a reply (R180, log 22). -/
structure ControlLink where
  lineRate : LineRate
  framer : Framer
  gap : Option PartTime
  rdyExpiry : Option PartTime
  rdyRisen : Bool
  replies : List Reply
  overrunSeen : Bool
  linkNotice : Bool
  notices : Four NoticeSet
  rotation : NoticeSource
  tx : Transmitter
  replyBegun : Bool
  deriving DecidableEq, Repr

/-- The state the Contention Input owns (02 §2.3). `held` is the model's own: a sample read at this part time's advance
and not dealt with yet (log 6). -/
structure ContentionInput where
  lastSample : Option Code
  accepted : Code
  held : Option Code
  deriving DecidableEq, Repr

/-- The states of a session (03 §3.8). -/
inductive SessionState where
  | closed | priming | primed | playing | paused | stalled | ended | fault
  deriving DecidableEq, Repr

/-- One rung of a ladder with its entry of the size table (R39, R102). -/
structure Rung where
  bitrate : Nat
  ratio : Nat
  observed : Bool
  deriving DecidableEq, Repr

/-- The next-order constraint when present (R120). -/
inductive RungLimit where
  | exact (r : Nat)
  | atMost (r : Nat)
  deriving DecidableEq, Repr

/-- The state of a fetch record (R143). -/
inductive FetchState where
  | ordered
  | active
  deriving DecidableEq, Repr

/-- A fetch record (R143). -/
structure FetchRecord where
  tag : Byte
  segment : Nat
  rung : Nat
  expected : Nat
  received : Nat
  state : FetchState
  grantTime : PartTime
  activityExpiry : PartTime
  attempt : Nat
  retryMark : Bool
  replacementMark : Bool
  slot : SlotId
  deriving DecidableEq, Repr

/-- A session record (03 §3.1). -/
structure Session where
  state : SessionState
  live : Bool
  ladder : List Rung
  segmentMs : Nat
  nextSegment : Nat
  lastSegment : Option Nat
  liveEdge : Nat
  weight : Nat
  cap : Nat
  floor : Nat
  markL : Nat
  markT : Nat
  markH : Nat
  markS0 : Nat
  storedLevel : Nat
  refTime : PartTime
  stallExpiry : Option PartTime
  lowExpiry : Option PartTime
  refillExpiry : Option PartTime
  stallCount : Nat
  autostart : Bool
  allFetched : Bool
  activeRung : Nat
  upHold : Nat
  rungLimit : Option RungLimit
  skipFirst : Nat
  skipCount : Nat
  tagCounter : Byte
  attempts : Nat
  fetch : Option FetchRecord
  deriving DecidableEq, Repr

/-- A session record after pin reset: closed, every field 0, the last segment absent (R36). -/
def Session.blank : Session where
  state := .closed
  live := false
  ladder := []
  segmentMs := 0
  nextSegment := 0
  lastSegment := none
  liveEdge := 0
  weight := 0
  cap := 0
  floor := 0
  markL := 0
  markT := 0
  markH := 0
  markS0 := 0
  storedLevel := 0
  refTime := 0#32
  stallExpiry := none
  lowExpiry := none
  refillExpiry := none
  stallCount := 0
  autostart := false
  allFetched := false
  activeRung := 0
  upHold := 0
  rungLimit := none
  skipFirst := 0
  skipCount := 0
  tagCounter := 0#8
  attempts := 0
  fetch := none

/-- One record of the sample ring (R90). -/
structure RingRecord where
  formedAt : PartTime
  sample : Nat
  busy : Nat
  code : Code
  windows : Nat
  deriving DecidableEq, Repr

/-- The state the Link Meter owns (ch. 5). -/
structure LinkMeter where
  windowExpiry : Option PartTime
  windowLength : Nat
  bytes : Nat
  busyStored : Nat
  busyRef : PartTime
  age : Nat
  activeCount : Nat
  ring : List RingRecord
  fast : Nat
  slow : Nat
  empty : Bool
  deriving DecidableEq, Repr

/-- What a held slot carries (R127). -/
structure SlotHolder where
  session : SessionId
  grantTime : PartTime
  deriving DecidableEq, Repr

/-- An entry of the grant queue (R131). -/
structure QueueEntry where
  session : SessionId
  preemptionUsed : Bool
  deriving DecidableEq, Repr

/-- The state the Slot Arbiter owns (ch. 8). Of the four places of `slots` the first K form the pool. `doneGrants` is the
model's own: for each slot, the grant time of a record that could have been preempted and that a DONE of this part time has
ended (R142, log 24). -/
structure SlotArbiter where
  slots : Four (Option SlotHolder)
  queue : List QueueEntry
  hold : Bool
  doneGrants : Four (Option PartTime)
  deriving DecidableEq, Repr

/-- The margin table: one margin for each of the codes 0 to 6 (R34). -/
structure Margins where
  m0 : Nat
  m1 : Nat
  m2 : Nat
  m3 : Nat
  m4 : Nat
  m5 : Nat
  m6 : Nat
  deriving DecidableEq, Repr

/-- The device settings (11 §11.1). -/
structure Settings where
  slotCount : Nat
  window : Nat
  fastShift : Nat
  slowShift : Nat
  margins : Margins
  opening : Nat
  fit : Nat
  activityTimeout : Nat
  retryLimit : Nat
  upHoldNeeded : Nat
  preemption : Bool
  abandonment : Bool
  deriving DecidableEq, Repr

/-- The default settings (11 §11.1). -/
def Settings.default : Settings where
  slotCount := 2
  window := 250
  fastShift := 1
  slowShift := 3
  margins := ⟨240, 224, 208, 192, 168, 144, 112⟩
  opening := 3000
  fit := 224
  activityTimeout := 4000
  retryLimit := 2
  upHoldNeeded := 2
  preemption := true
  abandonment := true

/-- The state of the part, and the queue of commands still to come, first in first out. -/
structure State where
  nrstHigh : Bool
  partTime : PartTime
  link : ControlLink
  contention : ContentionInput
  sessions : Four Session
  meter : LinkMeter
  arbiter : SlotArbiter
  settings : Settings
  pending : List Instr
  deriving DecidableEq, Repr

/-- The Control Link Unit at its pin-reset values (R5, R12, R14, R20, R180). The line rate is taken from BAUD at the
release; until then it is 921 600 baud here (DESIGN CHOICE, log 8). -/
def ControlLink.reset : ControlLink where
  lineRate := .baud921600
  framer := .hunt
  gap := none
  rdyExpiry := none
  rdyRisen := false
  replies := []
  overrunSeen := false
  linkNotice := false
  notices := Four.const NoticeSet.empty
  rotation := .session .i3
  tx := .idle
  replyBegun := false

/-- The Link Meter at its pin-reset values (R83, R85, R101, R180). The length of the window in progress and the busy
reference time have no stated value while NRST is low (DESIGN CHOICE, log 9). -/
def LinkMeter.reset : LinkMeter where
  windowExpiry := none
  windowLength := 250
  bytes := 0
  busyStored := 0
  busyRef := 0#32
  age := 0
  activeCount := 0
  ring := []
  fast := 0
  slow := 0
  empty := true

/-- The part while NRST is low: every piece of state at its pin-reset value (R180). A machine starts here (log 1). -/
def State.reset : State where
  nrstHigh := false
  partTime := 0#32
  link := ControlLink.reset
  contention := ⟨none, 0#3, none⟩
  sessions := Four.const Session.blank
  meter := LinkMeter.reset
  arbiter := ⟨Four.const none, [], false, Four.const none⟩
  settings := Settings.default
  pending := []

end Sys2Proof.Machine
end

