-- ==== Sys2Proof/Machine/Operands.lean ====
section
/-! DEFINITION. The arithmetic of part time and ranges, the byte order of fields, the frame layout, and the layout of every
request's payload, as it is put on the line and as it is read from it (ch. 1, ch. 2). -/

namespace Sys2Proof.Machine

open Sys2Proof

/-! ### Part time (R26) and ranges -/

/-- The interval from `t1` to `t2`: (t2 − t1) modulo 2^32 (R26). -/
def interval (t1 t2 : PartTime) : Nat := (t2 - t1).toNat

/-- The part time `d` milliseconds after `t`, modulo 2^32 (R26, R27). -/
def later (t : PartTime) (d : Nat) : PartTime := t + BitVec.ofNat 32 d

/-- An expiry falls when it is armed at the present part time (R27). -/
def isDue (expiry : Option PartTime) (now : PartTime) : Bool := expiry == some now

/-- A value brought into `lo..hi` (00_scope.md, Arithmetic). -/
def clamp (lo hi v : Nat) : Nat := if v < lo then lo else if hi < v then hi else v

/-! ### Byte order: least significant byte first (00_scope.md, Byte order) -/

/-- The byte at a place of a payload, 0 past its end. -/
def byteAt (p : List Byte) (k : Nat) : Nat := (p.getD k 0#8).toNat

/-- The two-byte unsigned field at a place (R23). -/
def field16 (p : List Byte) (k : Nat) : Nat := byteAt p k + 256 * byteAt p (k + 1)

/-- The four-byte unsigned field at a place (R23). -/
def field32 (p : List Byte) (k : Nat) : Nat := field16 p k + 65536 * field16 p (k + 2)

/-- A quantity as a one-byte field, sent as the largest value when it exceeds the width (R24). -/
def put8 (n : Nat) : List Byte := [BitVec.ofNat 8 (min n 0xFF)]

/-- The low and high byte of a number below 2^16. -/
def bytes16 (n : Nat) : List Byte := [BitVec.ofNat 8 n, BitVec.ofNat 8 (n / 256)]

/-- A quantity as a two-byte field, saturating (R24). -/
def put16 (n : Nat) : List Byte := bytes16 (min n 0xFFFF)

/-- A quantity as a four-byte field, saturating (R24). -/
def put32 (n : Nat) : List Byte :=
  let m := min n 0xFFFFFFFF
  bytes16 m ++ bytes16 (m / 65536)

/-- A part time as a four-byte field, carried unchanged (R26). -/
def putTime (t : PartTime) : List Byte := put32 t.toNat

/-- A flag as a one-byte field. -/
def putFlag (b : Bool) : List Byte := [if b then 1#8 else 0#8]

/-! ### Frames (R2) -/

/-- The sum of bytes modulo 256. -/
def byteSum (bs : List Byte) : Byte := bs.foldl (· + ·) 0#8

/-- SUM: the low 8 bits of the sum of KIND, TARGET, LEN and every payload byte (R2). -/
def frameSum (kind target len : Byte) (payload : List Byte) : Byte := kind + target + len + byteSum payload

/-- A frame in the layout of the frame table (01 §1.2). -/
def frameBytes (kind target : Byte) (payload : List Byte) (sumError : Byte) : List Byte :=
  let len := BitVec.ofNat 8 payload.length
  Config.sync :: kind :: target :: len :: (payload ++ [frameSum kind target len payload + sumError])

/-! ### Request kinds (01 §1.11) -/

/-- The request kinds. -/
inductive ReqKind where
  | hello | configure | reset | grantHold | queryLink | history
  | openSession | closeSession | play | pause | seek | limits | playout | edge | querySession
  | start | progress | done | fail
  deriving DecidableEq, Repr

/-- The kind codes (01 §1.11, Request kinds). -/
def ReqKind.code : ReqKind → Byte
  | .hello => 0x01#8
  | .configure => 0x02#8
  | .reset => 0x03#8
  | .grantHold => 0x04#8
  | .queryLink => 0x05#8
  | .history => 0x06#8
  | .openSession => 0x10#8
  | .closeSession => 0x11#8
  | .play => 0x12#8
  | .pause => 0x13#8
  | .seek => 0x14#8
  | .limits => 0x15#8
  | .playout => 0x16#8
  | .edge => 0x17#8
  | .querySession => 0x18#8
  | .start => 0x20#8
  | .progress => 0x21#8
  | .done => 0x22#8
  | .fail => 0x23#8

/-- Every request kind. -/
def ReqKind.all : List ReqKind :=
  [.hello, .configure, .reset, .grantHold, .queryLink, .history, .openSession, .closeSession, .play, .pause, .seek,
   .limits, .playout, .edge, .querySession, .start, .progress, .done, .fail]

/-- The request kind of a KIND byte, none when it is not a request kind (R7). -/
def ReqKind.ofCode (b : Byte) : Option ReqKind := ReqKind.all.find? (fun k => k.code == b)

/-- The length a kind requires, none where no length is right: an OPEN without a rung-count byte (R23), and an OPEN whose
rung count would need a LEN above 240. For the latter R3 says that the length check refuses every such LEN, while the last
sentences of R23 and R43 read as if it passed: the model follows R3 (DEDUCED, log 21). -/
def ReqKind.requiredLength (k : ReqKind) (payload : List Byte) : Option Nat :=
  match k with
  | .hello => some 0
  | .configure => some 31
  | .reset => some 1
  | .grantHold => some 1
  | .queryLink => some 0
  | .history => some 2
  | .openSession =>
    if payload.length < 2 ∨ Config.maxLength < 32 + 2 * byteAt payload 1 then none else some (32 + 2 * byteAt payload 1)
  | .closeSession => some 0
  | .play => some 0
  | .pause => some 0
  | .seek => some 4
  | .limits => some 3
  | .playout => some 4
  | .edge => some 4
  | .querySession => some 0
  | .start => some 5
  | .progress => some 5
  | .done => some 5
  | .fail => some 2

/-- What a TARGET byte addresses (01 §1.2). -/
inductive Target where
  | session (i : SessionId)
  | device
  | all
  deriving DecidableEq, Repr

/-- The TARGET byte of a session (01 §1.2). -/
def sessionByte (i : SessionId) : Byte := BitVec.ofNat 8 i.toNat

/-- The target a TARGET byte names, if any (01 §1.2). -/
def Target.ofByte (b : Byte) : Option Target :=
  if b = 0x00#8 then some (.session .i0)
  else if b = 0x01#8 then some (.session .i1)
  else if b = 0x02#8 then some (.session .i2)
  else if b = 0x03#8 then some (.session .i3)
  else if b = Config.deviceTarget then some .device
  else if b = Config.allTarget then some .all
  else none

/-! ### Payloads as the host puts them on the line -/

/-- A 16-bit value, low byte first. -/
def le16 (v : BitVec 16) : List Byte := bytes16 v.toNat

/-- A 32-bit value, low byte first. -/
def le32 (v : BitVec 32) : List Byte := bytes16 v.toNat ++ bytes16 (v.toNat / 65536)

/-- The CONFIGURE payload, 31 bytes (01 §1.11). -/
def configPayload (c : ConfigFields) : List Byte :=
  c.slotCount :: le16 c.window ++ [c.fastShift, c.slowShift] ++ le16 c.margin0 ++ le16 c.margin1 ++ le16 c.margin2 ++
    le16 c.margin3 ++ le16 c.margin4 ++ le16 c.margin5 ++ le16 c.margin6 ++ le32 c.opening ++ le16 c.fit ++
    le16 c.activityTimeout ++ [c.retryLimit, c.upHold, c.preemption, c.abandonment]

/-- The OPEN payload, 32 bytes and the bitrates (01 §1.11). -/
def openPayload (o : OpenFields) : List Byte :=
  [o.mode, o.rungCount] ++ le16 o.segmentMs ++ le32 o.firstSegment ++ le32 o.lastSegment ++
    [o.weight, o.cap, o.floor, o.startRung] ++ le32 o.markL ++ le32 o.markT ++ le32 o.markH ++ le32 o.markS0 ++
    o.bitrates.flatMap le16

/-! ### Payloads as the owners read them -/

/-- The CONFIGURE payload read as unsigned integers (R23). -/
structure ConfigRequest where
  slotCount : Nat
  window : Nat
  fastShift : Nat
  slowShift : Nat
  margins : Margins
  opening : Nat
  fit : Nat
  activityTimeout : Nat
  retryLimit : Nat
  upHold : Nat
  preemption : Nat
  abandonment : Nat
  deriving DecidableEq, Repr

/-- Reading a CONFIGURE payload (01 §1.11). -/
def ConfigRequest.ofPayload (p : List Byte) : ConfigRequest where
  slotCount := byteAt p 0
  window := field16 p 1
  fastShift := byteAt p 3
  slowShift := byteAt p 4
  margins := ⟨field16 p 5, field16 p 7, field16 p 9, field16 p 11, field16 p 13, field16 p 15, field16 p 17⟩
  opening := field32 p 19
  fit := field16 p 23
  activityTimeout := field16 p 25
  retryLimit := byteAt p 27
  upHold := byteAt p 28
  preemption := byteAt p 29
  abandonment := byteAt p 30

/-- The request a CONFIGURE command carries. -/
def configRequest (c : ConfigFields) : ConfigRequest where
  slotCount := c.slotCount.toNat
  window := c.window.toNat
  fastShift := c.fastShift.toNat
  slowShift := c.slowShift.toNat
  margins := ⟨c.margin0.toNat, c.margin1.toNat, c.margin2.toNat, c.margin3.toNat, c.margin4.toNat, c.margin5.toNat,
    c.margin6.toNat⟩
  opening := c.opening.toNat
  fit := c.fit.toNat
  activityTimeout := c.activityTimeout.toNat
  retryLimit := c.retryLimit.toNat
  upHold := c.upHold.toNat
  preemption := c.preemption.toNat
  abandonment := c.abandonment.toNat

/-- The OPEN payload read as unsigned integers (R23). -/
structure OpenRequest where
  mode : Nat
  rungCount : Nat
  segmentMs : Nat
  firstSegment : Nat
  lastSegment : Nat
  weight : Nat
  cap : Nat
  floor : Nat
  startRung : Nat
  markL : Nat
  markT : Nat
  markH : Nat
  markS0 : Nat
  bitrates : List Nat
  deriving DecidableEq, Repr

/-- Reading an OPEN payload (01 §1.11): the first bitrate is rung 0's (R39). -/
def OpenRequest.ofPayload (p : List Byte) : OpenRequest where
  mode := byteAt p 0
  rungCount := byteAt p 1
  segmentMs := field16 p 2
  firstSegment := field32 p 4
  lastSegment := field32 p 8
  weight := byteAt p 12
  cap := byteAt p 13
  floor := byteAt p 14
  startRung := byteAt p 15
  markL := field32 p 16
  markT := field32 p 20
  markH := field32 p 24
  markS0 := field32 p 28
  bitrates := (List.range (byteAt p 1)).map (fun r => field16 p (32 + 2 * r))

/-- The request an OPEN command carries, when its rung count is the number of its bitrates. -/
def openRequest (o : OpenFields) : OpenRequest where
  mode := o.mode.toNat
  rungCount := o.rungCount.toNat
  segmentMs := o.segmentMs.toNat
  firstSegment := o.firstSegment.toNat
  lastSegment := o.lastSegment.toNat
  weight := o.weight.toNat
  cap := o.cap.toNat
  floor := o.floor.toNat
  startRung := o.startRung.toNat
  markL := o.markL.toNat
  markT := o.markT.toNat
  markH := o.markH.toNat
  markS0 := o.markS0.toNat
  bitrates := o.bitrates.map (·.toNat)

end Sys2Proof.Machine
end

