-- ==== Sys2Proof/Machine/Flags.lean ====
section
/-! DEFINITION. Status bytes, the flag bytes of replies and notices, the codes of enumerated fields, and the output pins
(ch. 1, ch. 11). -/

namespace Sys2Proof.Machine

open Sys2Proof

/-- The codes of STATUS1 (R11). -/
def Status1.code : Status1 → Byte
  | .ok => 0x00#8
  | .badTarget => 0x01#8
  | .notOpen => 0x02#8
  | .alreadyOpen => 0x03#8
  | .badField => 0x04#8
  | .wrongState => 0x05#8
  | .staleTag => 0x06#8
  | .busy => 0x08#8
  | .clamped => 0x09#8
  | .notExecuted => 0xFF#8

/-- OK when nothing was brought into range, CLAMPED otherwise (R11). -/
def Status1.ofSame (same : Bool) : Status1 := if same then .ok else .clamped

/-- STATUS0 bit 0, SUM_BAD (01 §1.5). -/
def sumBadBit : Byte := 0x01#8

/-- STATUS0 bit 1, LEN_BAD (01 §1.5). -/
def lenBadBit : Byte := 0x02#8

/-- STATUS0 bit 2, KIND_UNKNOWN (01 §1.5). -/
def kindUnknownBit : Byte := 0x04#8

/-- STATUS0 bit 3, OVERRUN_SEEN (01 §1.5). -/
def overrunBit : Byte := 0x08#8

/-- The KIND of a reply: the request's with its top bit set (R7, R9). -/
def replyKind (kind : Byte) : Byte := kind ||| 0x80#8

/-- The frame of a reply, with bit 3 of STATUS0 as OVERRUN_SEEN stands when transmission begins (R10). -/
def Reply.frame (r : Reply) (overrunSeen : Bool) : List Byte :=
  frameBytes r.kind r.target
    ((r.status0 ||| (if overrunSeen then overrunBit else 0x00#8)) :: r.status1.code :: r.fields) 0#8

/-- The state byte of a QUERY_SESSION reply (01 §1.11). -/
def SessionState.code : SessionState → Byte
  | .closed => 0#8
  | .priming => 1#8
  | .primed => 2#8
  | .playing => 3#8
  | .paused => 4#8
  | .stalled => 5#8
  | .ended => 6#8
  | .fault => 7#8

/-- Whether a session record is open (03 §3.1). -/
def Session.isOpen (r : Session) : Bool := r.state != .closed

/-- The flags byte of a QUERY_SESSION reply: bit 0 autostart, bit 1 all-fetched (01 §1.11). -/
def Session.flagsByte (r : Session) : Byte :=
  (if r.autostart then 1#8 else 0#8) ||| (if r.allFetched then 2#8 else 0#8)

/-- The marks byte of an ORDER and of the fetch block: bit 0 retry, bit 1 replacement (01 §1.11). -/
def FetchRecord.marksByte (f : FetchRecord) : Byte :=
  (if f.retryMark then 1#8 else 0#8) ||| (if f.replacementMark then 2#8 else 0#8)

/-- The reason byte of a CANCEL (01 §1.11). -/
def CancelReason.code : CancelReason → Byte
  | .abandon => 1#8
  | .timeout => 2#8
  | .preempt => 3#8

/-- The session's bit in the mask of a broadcast reply (R21). -/
def maskBit (i : SessionId) : Byte := 1#8 <<< i.toNat

/-- The code of a line sample: CC2 most significant, high read as 1 (R28). -/
def lineCode (c : CcLines) : Code :=
  BitVec.ofNat 3 (4 * c.cc2.toNat + 2 * c.cc1.toNat + c.cc0.toNat)

/-- RDY: low while NRST is low and until its first rise; from then on high while the reply queue holds 0, 1 or 2
replies (R13). -/
def State.rdy (s : State) : Bool := s.nrstHigh && s.link.rdyRisen && decide (s.link.replies.length ≤ 2)

/-- TXD stands at the idle level while nothing is being sent (R19, R180). -/
def State.txdIdle (s : State) : Bool := s.link.tx == .idle

end Sys2Proof.Machine
end

