-- ==== Sys2Proof/Machine/Ops.lean ====
section
/-! DEFINITION. The named operations on State: reading and writing one block's state, raising and clearing notices, the
level and its expiries (ch. 1 §1.7, ch. 4). -/

namespace Sys2Proof.Machine

open Sys2Proof

/-! ### One block's state -/

/-- The record of a session (R36). -/
def State.session (s : State) (i : SessionId) : Session := s.sessions.get i

/-- The state with one session's record replaced. -/
def State.setSession (s : State) (i : SessionId) (r : Session) : State := { s with sessions := s.sessions.set i r }

/-- The state with one session's record changed. -/
def State.updSession (s : State) (i : SessionId) (f : Session → Session) : State := s.setSession i (f (s.session i))

/-- The pending notice set of a session (R14). -/
def State.notices (s : State) (i : SessionId) : NoticeSet := s.link.notices.get i

/-- The state with the Control Link Unit's state replaced. -/
def State.setLink (s : State) (l : ControlLink) : State := { s with link := l }

/-- The state with a session's pending notice set changed. -/
def State.updNotices (s : State) (i : SessionId) (f : NoticeSet → NoticeSet) : State :=
  s.setLink { s.link with notices := s.link.notices.set i (f (s.notices i)) }

/-- The state with the Link Meter's state replaced. -/
def State.setMeter (s : State) (m : LinkMeter) : State := { s with meter := m }

/-- The state with the Slot Arbiter's state replaced. -/
def State.setArbiter (s : State) (a : SlotArbiter) : State := { s with arbiter := a }

/-- The state with the Contention Input's state replaced. -/
def State.setContention (s : State) (c : ContentionInput) : State := { s with contention := c }

/-- The state with the settings replaced. -/
def State.setSettings (s : State) (c : Settings) : State := { s with settings := c }

/-! ### Raising and clearing notices (R14, R16, R17, R18) -/

/-- CANCEL raised with the tag and reason captured; a CANCEL already pending stays as it was (R14). -/
def State.raiseCancel (s : State) (i : SessionId) (tag : Byte) (reason : CancelReason) : State :=
  s.updNotices i fun n => { n with cancel := n.cancel.orElse fun _ => some ⟨tag, reason⟩ }

/-- ORDER raised, which removes a pending CANCEL of the session (R14, R16). -/
def State.raiseOrder (s : State) (i : SessionId) : State :=
  s.updNotices i fun n => { n with order := true, cancel := none }

/-- SKIP raised (R14). -/
def State.raiseSkip (s : State) (i : SessionId) : State := s.updNotices i fun n => { n with skip := true }

/-- STALL raised with the present part time captured; the time of a STALL already pending stays (R14, R66). -/
def State.raiseStall (s : State) (i : SessionId) : State :=
  s.updNotices i fun n => { n with stall := n.stall.orElse fun _ => some s.partTime }

/-- READY raised (R14). -/
def State.raiseReady (s : State) (i : SessionId) : State := s.updNotices i fun n => { n with ready := true }

/-- FAULT raised (R14). -/
def State.raiseFault (s : State) (i : SessionId) : State := s.updNotices i fun n => { n with fault := true }

/-- LINK raised in the device's pending set (R14, R31). -/
def State.raiseLink (s : State) : State := s.setLink { s.link with linkNotice := true }

/-- A pending ORDER withdrawn (R17). -/
def State.withdrawOrder (s : State) (i : SessionId) : State := s.updNotices i fun n => { n with order := false }

/-- A session's pending set cleared (R18). -/
def State.clearNotices (s : State) (i : SessionId) : State := s.updNotices i fun _ => NoticeSet.empty

/-! ### The level and its expiries (R60 to R65) -/

/-- The level of a session at a part time: falling by 1 for each ms while PLAYING, else the stored level (R60). -/
def Session.level (r : Session) (now : PartTime) : Nat :=
  if r.state = .playing then r.storedLevel - interval r.refTime now else r.storedLevel

/-- The stored level and the reference time written together (R61). -/
def Session.writeLevel (r : Session) (now : PartTime) (level : Nat) : Session :=
  { r with storedLevel := level, refTime := now }

/-- The stall expiry that R62 gives for the stored level and state in force. -/
def Session.stallDue (r : Session) : Option PartTime :=
  if r.state = .playing ∧ 0 < r.storedLevel then some (later r.refTime r.storedLevel) else none

/-- The low expiry that R63 gives. -/
def Session.lowDue (r : Session) : Option PartTime :=
  if r.state = .playing ∧ 0 < r.markL ∧ r.markL ≤ r.storedLevel then
    some (later r.refTime (r.storedLevel - r.markL + 1))
  else none

/-- The refill expiry that R64 gives. -/
def Session.refillDue (r : Session) : Option PartTime :=
  if r.state = .playing ∧ r.markH - r.segmentMs < r.storedLevel then
    some (later r.refTime (r.storedLevel - (r.markH - r.segmentMs)))
  else none

/-- All three level expiries rearmed or cleared from the stored level, reference time and state in force (R65). -/
def Session.rearm (r : Session) : Session :=
  { r with stallExpiry := r.stallDue, lowExpiry := r.lowDue, refillExpiry := r.refillDue }

/-- A change of state: out of or into PLAYING, the level in force is written (R61). -/
def Session.enter (r : Session) (now : PartTime) (st : SessionState) : Session :=
  if r.state = .playing ∨ st = .playing then { r.writeLevel now (r.level now) with state := st }
  else { r with state := st }

/-- The level of a session at the present part time (R60). -/
def State.level (s : State) (i : SessionId) : Nat := (s.session i).level s.partTime

/-- The stall count raised by 1, saturating at 255 (R66). -/
def Session.countStall (r : Session) : Session := { r with stallCount := min (r.stallCount + 1) 255 }

/-- The end of playing at level 0: ENDED under the all-fetched flag, otherwise STALLED with a stall counted and STALL
raised (R66, R72). The level has been written as 0 before; the expiries are rearmed by the caller. -/
def State.runDry (s : State) (i : SessionId) : State :=
  if (s.session i).allFetched then s.updSession i fun r => { r with state := .ended }
  else (s.updSession i fun r => { r.countStall with state := .stalled }).raiseStall i

/-- The priming threshold: the level is S0 or more, or the all-fetched flag is set (R71). -/
def Session.thresholdMet (r : Session) : Bool := decide (r.markS0 ≤ r.storedLevel) || r.allFetched

/-- The examination of the state after a credit or a PLAYOUT has written the level (R71). -/
def State.examinePriming (s : State) (i : SessionId) : State :=
  let r := s.session i
  match r.state with
  | .priming =>
    if r.thresholdMet then
      (s.setSession i { r with state := (if r.autostart then .playing else .primed), autostart := false }).raiseReady i
    else s
  | .stalled => if r.thresholdMet then (s.setSession i { r with state := .playing }).raiseReady i else s
  | .closed => s
  | .primed => s
  | .playing => s
  | .paused => s
  | .ended => s
  | .fault => s

/-- The expiries of a session rearmed (R65). -/
def State.rearm (s : State) (i : SessionId) : State := s.updSession i Session.rearm

end Sys2Proof.Machine
end

