-- ==== Sys2Proof/Machine/Meter.lean ====
section
/-! DEFINITION. The Link Meter: busy reckoning, samples, the sample ring, the averages and the link estimate (ch. 5). -/

namespace Sys2Proof.Machine

open Sys2Proof

/-- The busy of the accumulator at a part time (R87). -/
def LinkMeter.busyAt (m : LinkMeter) (now : PartTime) : Nat :=
  if 0 < m.activeCount then m.busyStored + interval m.busyRef now else m.busyStored

/-- A record becomes ACTIVE: when the count rises from 0, the busy reference time is set (R87). -/
def LinkMeter.activeUp (m : LinkMeter) (now : PartTime) : LinkMeter :=
  if m.activeCount = 0 then { m with activeCount := 1, busyRef := now }
  else { m with activeCount := m.activeCount + 1 }

/-- A record leaves ACTIVE: when the count falls to 0, the busy reckoned now is stored (R87). -/
def LinkMeter.activeDown (m : LinkMeter) (now : PartTime) : LinkMeter :=
  if m.activeCount = 1 then { m with activeCount := 0, busyStored := m.busyAt now }
  else { m with activeCount := m.activeCount - 1 }

/-- A byte credit added to the accumulator (R86). -/
def State.creditBytes (s : State) (n : Nat) : State := s.setMeter { s.meter with bytes := s.meter.bytes + n }

/-- The value of a sample (R89). -/
def sampleValue (bytes busy : Nat) : Nat := min Config.maxSample (bytes * 8 / busy)

/-- One average updated with a sample, rounded to the nearest with halves up (R93). -/
def average (shift old sample : Nat) : Nat := (old * (2 ^ shift - 1) + sample + 2 ^ (shift - 1)) / 2 ^ shift

/-- A record added after the newest; a full ring loses its oldest (R90). -/
def ringAdd (ring : List RingRecord) (rec : RingRecord) : List RingRecord :=
  (if ring.length < Config.ringSize then ring else ring.tail) ++ [rec]

/-- The estimator seeded by its first sample (R92) or updated (R93). -/
def LinkMeter.estimate (m : LinkMeter) (c : Settings) (sample : Nat) : LinkMeter :=
  if m.empty then { m with fast := sample, slow := sample, empty := false }
  else { m with fast := average c.fastShift m.fast sample, slow := average c.slowShift m.slow sample }

/-- Whether a sample forms at a window expiry, with the age already risen (R88, steps 2 and 3). -/
def sampleForms (windowLength busy age : Nat) : Bool :=
  decide (windowLength / 2 ≤ busy) || (decide (age = Config.maxAge) && decide (Config.enoughBusy ≤ busy))

/-- Whether the accumulator is cleared without a sample (R88, step 3). -/
def sampleDropped (windowLength busy age : Nat) : Bool :=
  !sampleForms windowLength busy age && decide (age = Config.maxAge)

/-- The accumulator cleared at a window expiry, the busy reference time set to it (R87, R88). -/
def LinkMeter.clearAccumulator (m : LinkMeter) (now : PartTime) : LinkMeter :=
  { m with bytes := 0, busyStored := 0, busyRef := now, age := 0 }

/-- The window-end steps of R88 with the order of R95 (steps 1 to 3). -/
def LinkMeter.endWindow (m : LinkMeter) (c : Settings) (code : Code) (now : PartTime) : LinkMeter :=
  let busy := m.busyAt now
  let age := m.age + 1
  if sampleForms m.windowLength busy age then
    let sample := sampleValue m.bytes busy
    (({ m with ring := ringAdd m.ring ⟨now, sample, busy, code, age⟩ }).estimate c sample).clearAccumulator now
  else if sampleDropped m.windowLength busy age then m.clearAccumulator now
  else { m with busyStored := busy, busyRef := now, age := age }

/-- The next window armed with the W in force, which becomes its length (R83). -/
def LinkMeter.armWindow (m : LinkMeter) (c : Settings) (now : PartTime) : LinkMeter :=
  { m with windowExpiry := some (later now c.window), windowLength := c.window }

/-- The margin of a code: the entry of the margin table, or 0 for code 7 (R34, R35). -/
def Margins.at (m : Margins) (code : Code) : Nat :=
  match code.toNat with
  | 0 => m.m0
  | 1 => m.m1
  | 2 => m.m2
  | 3 => m.m3
  | 4 => m.m4
  | 5 => m.m5
  | 6 => m.m6
  | _ => 0

/-- The base estimate: the lower of F and S, or the opening estimate while the estimator is empty (R96). -/
def State.baseEstimate (s : State) : Nat :=
  if s.meter.empty then s.settings.opening else min s.meter.fast s.meter.slow

/-- The link estimate E, computed wherever it is read (R97). -/
def State.estimate (s : State) : Nat := s.baseEstimate * s.settings.margins.at s.contention.accepted / 256

/-- The estimator cleared: F, S and accumulator 0, ring empty, empty flag set; the window is kept (R101). -/
def LinkMeter.clearEstimator (m : LinkMeter) : LinkMeter :=
  { m with fast := 0, slow := 0, empty := true, ring := [], bytes := 0, busyStored := 0, age := 0 }

end Sys2Proof.Machine
end

