-- ==== Sys2Proof/Machine/Selector.lean ====
section
/-! DEFINITION. The Size Learner and the Rung Selector: ratios, shares, predicted sizes and times, the decision and the
next-order constraint (ch. 6, ch. 7). -/

namespace Sys2Proof.Machine

open Sys2Proof

/-! ### The size table (ch. 6) -/

/-- The bitrate of a rung (R39); 0 past the ladder, which no run reads. -/
def Session.bitrate (r : Session) (k : Nat) : Nat := (r.ladder[k]?.map (·.bitrate)).getD 0

/-- The nominal size N(r) in bytes (R103). -/
def Session.nominalSize (r : Session) (k : Nat) : Nat := r.bitrate k * r.segmentMs / 8

/-- The observed ratio after the clamp of R104 step 2. -/
def clampRatio (q o : Nat) : Nat := clamp (max 64 (q / 2)) (min 1023 (2 * q)) o

/-- The stored ratio after a completion with a total above 0 (R104, steps 1 to 3). -/
def learnedRatio (q total nominal : Nat) : Nat := (3 * q + clampRatio q (total * 256 / nominal) + 2) / 4

/-- The size table after a completion at rung `k` with total `total` (R104); a total of 0 teaches nothing (R107). -/
def Session.learn (r : Session) (k total : Nat) : Session :=
  if total = 0 then r
  else { r with ladder := r.ladder.modify k fun e =>
           { e with ratio := learnedRatio e.ratio total (r.nominalSize k), observed := true } }

/-- The effective ratio q*(k) (R108): its own when observed, else that of the highest observed rung below, else that
of the lowest observed rung above, else 256. -/
def effectiveRatio (ladder : List Rung) (k : Nat) : Nat :=
  match ((ladder.take (k + 1)).filter (·.observed)).getLast? with
  | some e => e.ratio
  | none =>
    match (ladder.drop (k + 1)).find? (·.observed) with
    | some e => e.ratio
    | none => 256

/-! ### Shares and predictions (R109 to R113) -/

/-- Whether a session holds a fetch record. -/
def State.hasFetch (s : State) (i : SessionId) : Bool := (s.session i).fetch.isSome

/-- Whether a session has an entry in the grant queue. -/
def State.isQueued (s : State) (i : SessionId) : Bool := s.arbiter.queue.any (fun e => e.session == i)

/-- The demand set of session `i`: itself, and every other session with a record or an entry (R109). -/
def State.demandSet (s : State) (i : SessionId) : List SessionId :=
  Idx4.all.filter fun j => j == i || s.hasFetch j || s.isQueued j

/-- Wsum(i): the weights of the demand set together (R109). -/
def State.weightSum (s : State) (i : SessionId) : Nat := ((s.demandSet i).map fun j => (s.session j).weight).sum

/-- share(i) in kbit/s (R110). -/
def State.share (s : State) (i : SessionId) : Nat := s.estimate * (s.session i).weight / s.weightSum i

/-- The predicted size P(k) in bytes (R112). -/
def Session.predictedSize (r : Session) (k : Nat) : Nat :=
  r.bitrate k * r.segmentMs * effectiveRatio r.ladder k / 2048

/-- The ms that a number of bytes takes at a share: the ceiling of bytes × 8 / share, unbounded (none) when the share
is 0 (R113, R168). -/
def transferTime (bytes share : Nat) : Option Nat :=
  if share = 0 then none else some ((bytes * 8 + (share - 1)) / share)

/-- A time is at most a finite limit; an unbounded time never is (R113). -/
def timeWithin (t : Option Nat) (limit : Nat) : Bool := t.elim false (fun v => decide (v ≤ limit))

/-- The first time is below the second; an unbounded second time satisfies no such comparison (R113, R169). -/
def timeBelow (t u : Option Nat) : Bool :=
  match t, u with
  | some v, some w => decide (v < w)
  | _, _ => false

/-- The predicted time Tp(k) of a session's rung at a share (R113). -/
def Session.predictedTime (r : Session) (share k : Nat) : Option Nat := transferTime (r.predictedSize k) share

/-- The rungs `lo..hi`. -/
def rungSpan (lo hi : Nat) : List Nat := (List.range (hi + 1)).filter (fun k => decide (lo ≤ k))

/-- The highest rung in `lo..hi` that satisfies a condition, if any does (R113: not the first that fails ends the
search). -/
def highestRung (lo hi : Nat) (ok : Nat → Bool) : Option Nat := ((rungSpan lo hi).filter ok).getLast?

/-! ### The decision (R114 to R119) -/

/-- The fit limit in ms (R114). -/
def fitLimit (segmentMs fit : Nat) : Nat := segmentMs * fit / 256

/-- r_tp: the highest rung of f..c whose predicted time is within the fit limit, or f (R114). -/
def Session.sustainableRung (r : Session) (share fit : Nat) : Nat :=
  (highestRung r.floor r.cap fun k => timeWithin (r.predictedTime share k) (fitLimit r.segmentMs fit)).getD r.floor

/-- r_g: the highest rung of f..c whose predicted time is within half the level, or f (R116). -/
def Session.guardRung (r : Session) (share level : Nat) : Nat :=
  (highestRung r.floor r.cap fun k => timeWithin (r.predictedTime share k) (level / 2)).getD r.floor

/-- a′: the active rung brought into f..c (R115, R119). -/
def Session.heldRung (r : Session) : Nat := clamp r.floor r.cap r.activeRung

/-- The choice of the decision: the first of R116 to R118 that applies. -/
def Session.rungChoice (r : Session) (share level fit upHoldNeeded : Nat) : Nat :=
  let tp := r.sustainableRung share fit
  let a := r.heldRung
  if share = 0 then r.floor
  else if level < r.markL then min (min tp (r.guardRung share level)) a
  else if a < tp then (if r.markT ≤ level ∧ upHoldNeeded ≤ r.upHold then a + 1 else a)
  else tp

/-- The next-order constraint applied to the choice (R121). -/
def Session.orderRung (r : Session) (choice : Nat) : Nat :=
  match r.rungLimit with
  | none => choice
  | some (.atMost k) => min choice (max k r.floor)
  | some (.exact k) => min (clamp r.floor r.cap k) (r.heldRung + 1)

/-- Whether the constraint applied is EXACT, which sets the replacement mark (R121, R146). -/
def Session.limitIsExact (r : Session) : Bool :=
  match r.rungLimit with
  | some (.exact _) => true
  | some (.atMost _) => false
  | none => false

/-- The rung of the order at a grant of session `i`, from the state as it stands (R115 to R121). -/
def State.decideRung (s : State) (i : SessionId) : Nat :=
  let r := s.session i
  r.orderRung (r.rungChoice (s.share i) (s.level i) s.settings.fit s.settings.upHoldNeeded)

/-- The active rung and the up-hold count after a completion at rung `k` (R124). -/
def Session.recordCompletion (r : Session) (k : Nat) : Session :=
  if k = r.activeRung then { r with upHold := min (r.upHold + 1) 15 }
  else { r with activeRung := k, upHold := 1 }

end Sys2Proof.Machine
end

