-- ==== Sys2Proof/Machine/Arbiter.lean ====
section
/-! DEFINITION. The Slot Arbiter with the Fetch Tracker's two operations it needs: wanting, urgency, the grant queue,
creating a fetch record, the ending path, granting and preemption (ch. 8, R143 to R147, R157, R158). -/

namespace Sys2Proof.Machine

open Sys2Proof

/-! ### Wanting and urgency (R129, R132) -/

/-- Whether the session's next segment is available (R40). -/
def Session.segmentAvailable (r : Session) : Bool :=
  if r.live then decide (r.nextSegment ≤ r.liveEdge)
  else r.lastSegment.elim false (fun l => decide (r.nextSegment ≤ l))

/-- Whether a session wants a fetch (R129). -/
def State.wants (s : State) (i : SessionId) : Bool :=
  let r := s.session i
  let fits := decide (s.level i + r.segmentMs ≤ r.markH)
  let stateWants := match r.state with
    | .priming => true
    | .stalled => true
    | .primed => fits
    | .playing => fits
    | .paused => fits
    | .closed => false
    | .ended => false
    | .fault => false
  stateWants && r.fetch.isNone && r.segmentAvailable

/-- Whether a session is urgent (R132): PRIMING or STALLED, or PLAYING with B < L, read from its state and level. -/
def State.urgent (s : State) (i : SessionId) : Bool :=
  let r := s.session i
  match r.state with
  | .priming => true
  | .stalled => true
  | .playing => decide (s.level i < r.markL)
  | .closed => false
  | .primed => false
  | .paused => false
  | .ended => false
  | .fault => false

/-- Whether a session has become urgent so far as the arbiter has been told: a PLAYING session becomes urgent when its low
expiry falls (R67, R132), and a grant taken before that expiry of the same part time treats it as not urgent (R142; log 7). -/
def State.toldUrgent (s : State) (i : SessionId) : Bool :=
  let r := s.session i
  s.urgent i && !(r.state == .playing && isDue r.lowExpiry s.partTime)

/-! ### The grant queue (R131) -/

/-- A new entry at the tail, its flag clear (R130, R131). -/
def State.appendEntry (s : State) (i : SessionId) : State :=
  s.setArbiter { s.arbiter with queue := s.arbiter.queue ++ [⟨i, false⟩] }

/-- A new entry at the head, its flag clear (R140). -/
def State.prependEntry (s : State) (i : SessionId) : State :=
  s.setArbiter { s.arbiter with queue := ⟨i, false⟩ :: s.arbiter.queue }

/-- The session's entry removed, with its flag; the others keep their order (R131). -/
def State.removeEntry (s : State) (i : SessionId) : State :=
  s.setArbiter { s.arbiter with queue := s.arbiter.queue.filter fun e => e.session != i }

/-- The preemption-used flag of a session's entry set (R140, R141). -/
def State.markPreemptionUsed (s : State) (i : SessionId) : State :=
  s.setArbiter { s.arbiter with
    queue := s.arbiter.queue.map fun e => if e.session = i then { e with preemptionUsed := true } else e }

/-- The preemption-used flag of a session's entry; clear where there is no entry. -/
def State.preemptionUsed (s : State) (i : SessionId) : Bool :=
  s.arbiter.queue.any fun e => e.session == i && e.preemptionUsed

/-! ### The slot pool (R127) -/

/-- The slots of the pool: the first K places. -/
def State.pool (s : State) : List SlotId := Idx4.all.filter fun k => decide (k.toNat < s.settings.slotCount)

/-- The free slot with the lowest number, if any (R128). -/
def State.freeSlot (s : State) : Option SlotId := s.pool.find? fun k => (s.arbiter.slots.get k).isNone

/-- A slot's content replaced. -/
def State.setSlot (s : State) (k : SlotId) (h : Option SlotHolder) : State :=
  s.setArbiter { s.arbiter with slots := s.arbiter.slots.set k h }

/-! ### Creating and ending a fetch record (R145, R157) -/

/-- The fetch record that a grant creates (R145, R146). -/
def State.newRecord (s : State) (i : SessionId) (slot : SlotId) : FetchRecord :=
  let r := s.session i
  let k := s.decideRung i
  { tag := r.tagCounter + 1#8
    segment := r.nextSegment
    rung := k
    expected := r.predictedSize k
    received := 0
    state := .ordered
    grantTime := s.partTime
    activityExpiry := later s.partTime s.settings.activityTimeout
    attempt := r.attempts
    retryMark := decide (0 < r.attempts)
    replacementMark := r.limitIsExact
    slot := slot }

/-- The Fetch Tracker's creation of the record in the taken slot, with the constraint cleared by the grant and ORDER
raised (R121, R128, R145). The session's entry has left the queue before. -/
def State.createRecord (s : State) (i : SessionId) (slot : SlotId) : State :=
  ((s.updSession i fun r =>
      { r with tagCounter := r.tagCounter + 1#8, fetch := some (s.newRecord i slot), rungLimit := none }).setSlot slot
    (some ⟨i, s.partTime⟩)).raiseOrder i

/-- The ending path for the record of session `i`, with the CANCEL reason of the ending, if it has one (R157, R158): a
pending ORDER is withdrawn and then no CANCEL is raised (R17). Without a record nothing ends. -/
def State.endRecord (s : State) (i : SessionId) (reason : Option CancelReason) : State :=
  match (s.session i).fetch with
  | none => s
  | some f =>
    let s1 := if (s.notices i).order then s.withdrawOrder i
      else match reason with
        | some why => s.raiseCancel i f.tag why
        | none => s
    let s2 := if f.state = .active then s1.setMeter (s1.meter.activeDown s1.partTime) else s1
    (s2.setSlot f.slot none).updSession i fun r => { r with fetch := none }

/-! ### Granting (R133 to R135) -/

/-- Grants are allowed while the hold is released and the accepted code is not 7 (R133). -/
def State.grantsAllowed (s : State) : Bool := !s.arbiter.hold && s.contention.accepted != 7#3

/-- Of two entries, the later replaces the earlier only at a strictly smaller level (R134). -/
def State.lowerLevel (s : State) (best : Option SessionId) (e : QueueEntry) : Option SessionId :=
  match best with
  | none => some e.session
  | some b => if s.level e.session < s.level b then some e.session else some b

/-- The session selected for a grant: the urgent entry of smallest level, nearest the head among equals, or the head
when no entry is urgent (R134), where an entry whose low expiry is due and not yet taken is not urgent (R142). -/
def State.selectEntry (s : State) : Option SessionId :=
  match (s.arbiter.queue.filter fun e => s.toldUrgent e.session).foldl s.lowerLevel none with
  | some i => some i
  | none => s.arbiter.queue.head?.map (·.session)

/-- One grant, when the conditions of R133 hold. -/
def State.grantOnce (s : State) : Option State :=
  if s.grantsAllowed then
    match s.freeSlot, s.selectEntry with
    | some k, some i => some ((s.removeEntry i).createRecord i k)
    | _, _ => none
  else none

/-- At most `fuel` grants, selecting afresh for each (R135). -/
def State.grantUpTo : Nat → State → State
  | 0, s => s
  | fuel + 1, s =>
    match s.grantOnce with
    | some s' => grantUpTo fuel s'
    | none => s

/-- Grants as often as the conditions hold (R135): each takes one of at most four slots. -/
def State.grantAll (s : State) : State := s.grantUpTo Config.maxSlots

/-! ### Preemption (R138 to R141) -/

/-- A held slot qualifies when its holder is not urgent and its record has Rcv × 4 < X (R139). -/
def State.slotQualifies (s : State) (k : SlotId) : Bool :=
  match s.arbiter.slots.get k with
  | none => false
  | some h =>
    !s.urgent h.session &&
      ((s.session h.session).fetch.elim false fun f => decide (f.received * 4 < f.expected))

/-- The interval from a slot's grant to now. -/
def State.slotAge (s : State) (k : SlotId) : Nat :=
  (s.arbiter.slots.get k).elim 0 fun h => interval h.grantTime s.partTime

/-- The slot of least age, the higher number among equals (R140 step 1). -/
def latestSlot (age : SlotId → Nat) (ks : List SlotId) : Option SlotId :=
  ks.foldl (fun best k => match best with
    | none => some k
    | some b => if age k ≤ age b then some k else some b) none

/-- The victim: the qualifying slot with the latest grant, the higher number among equals (R140 step 1). -/
def State.victimSlot (s : State) : Option SlotId := latestSlot s.slotAge (s.pool.filter s.slotQualifies)

/-! A DONE and a consideration of one part time (R142). With the DONE taken first, a consideration that would have chosen its
holder preempts nothing. -/

/-- Whether a slot qualifies now, or did until a DONE of this part time ended its record. -/
def State.qualifiedBeforeDone (s : State) (k : SlotId) : Bool := (s.arbiter.doneGrants.get k).isSome || s.slotQualifies k

/-- The interval to now from a slot's grant, that of the record which a DONE of this part time ended if there is one. -/
def State.ageBeforeDone (s : State) (k : SlotId) : Nat :=
  (s.arbiter.doneGrants.get k).elim (s.slotAge k) fun g => interval g s.partTime

/-- Whether a consideration would have chosen the holder of a record that a DONE of this part time has ended. -/
def State.doneWasChoice (s : State) : Bool :=
  (latestSlot s.ageBeforeDone (s.pool.filter s.qualifiedBeforeDone)).elim false fun k => (s.arbiter.doneGrants.get k).isSome

/-- A DONE has been taken of session `i`'s record `f`: where the record could have been preempted in `before`, its grant is
kept until part time advances (R142, log 24). -/
def State.noteDone (s before : State) (i : SessionId) (f : FetchRecord) : State :=
  if !before.urgent i && decide (f.received * 4 < f.expected) then
    s.setArbiter { s.arbiter with doneGrants := s.arbiter.doneGrants.set f.slot (some f.grantTime) }
  else s

/-- The session that loses its slot to a consideration for session `i`, when the conditions of R139 hold and no DONE of this
part time forestalls it (R142). -/
def State.preemptionVictim (s : State) (i : SessionId) : Option SessionId :=
  if s.isQueued i ∧ s.urgent i ∧ s.settings.preemption ∧ s.grantsAllowed ∧ s.freeSlot = none ∧ ¬ s.preemptionUsed i ∧
      ¬ s.doneWasChoice then
    s.victimSlot.bind fun k => (s.arbiter.slots.get k).map (·.session)
  else none

/-- The preemption of a victim for the entry of session `i` (R140, steps 2 to 5). -/
def State.preempt (s : State) (i victim : SessionId) : State :=
  let s1 := (s.markPreemptionUsed i).endRecord victim (some .preempt)
  let s2 := if s1.wants victim then s1.prependEntry victim else s1
  s2.grantAll

/-- A consideration of preemption for the entry of session `i` (R138, R139, R142). -/
def State.considerPreemption (s : State) (i : SessionId) : State :=
  match s.preemptionVictim i with
  | some victim => s.preempt i victim
  | none => s

/-- An entry put into a list of sessions kept in the order of selection: smaller level first, equal levels in queue
order (R134). -/
def State.insertByLevel (s : State) (i : SessionId) : List SessionId → List SessionId
  | [] => [i]
  | j :: rest => if s.level i < s.level j then i :: j :: rest else j :: insertByLevel s i rest

/-- The sessions of the urgent entries in the order in which selection would take them (R138). -/
def State.urgentOrder (s : State) : List SessionId :=
  (s.arbiter.queue.filter fun e => s.urgent e.session).foldl (fun acc e => s.insertByLevel e.session acc) []

/-- Each urgent entry still in the queue considered, one after another, in the order of selection (R138). -/
def State.considerAll (s : State) : State := s.urgentOrder.foldl State.considerPreemption s

/-! ### The hand-offs (R128, R130) -/

/-- Whether a re-examination appends an entry: the session wants a fetch and has none (R130). -/
def State.joins (s : State) (i : SessionId) : Bool := s.wants i && !s.isQueued i

/-- A re-examination of session `i` (R130): an entry is appended or removed as its wanting is now; an appended entry,
or a freed slot, is an occasion of granting (R135); a new urgent entry, or an entry that has just become urgent, is an
occasion on which preemption is considered, after those grants (R138). `wasUrgent` says whether the arbiter
had been told of its urgency before the event (`toldUrgent`): an entry
already urgent that enters STALLED has not just become urgent and is not considered again (DEDUCED, log 25). -/
def State.reexamine (s : State) (i : SessionId) (wasUrgent freed : Bool) : State :=
  if s.joins i then
    let s1 := (s.appendEntry i).grantAll
    if s1.urgent i then s1.considerPreemption i else s1
  else
    let s1 := if s.isQueued i && !s.wants i then s.removeEntry i else s
    let s2 := if freed then s1.grantAll else s1
    if s2.toldUrgent i && !wasUrgent then s2.considerPreemption i else s2

end Sys2Proof.Machine
end

