-- ==== Sys2Proof/Machine/Tracker.lean ====
section
/-! DEFINITION. The Fetch Tracker's failure handling and completion, and the Abandon Monitor (ch. 9, ch. 10). -/

namespace Sys2Proof.Machine

open Sys2Proof

/-! ### Failure handling (R159 to R163) -/

/-- A retry: the attempt count rises by 1 and the next order is held to one rung below the failed one (R160). -/
def Session.retry (r : Session) (failedRung : Nat) : Session :=
  { r with attempts := r.attempts + 1, rungLimit := some (.atMost (max (failedRung - 1) r.floor)) }

/-- The SKIP fields with one more skipped segment (R162). -/
def Session.recordSkip (r : Session) (segment : Nat) : Session :=
  if r.skipCount = 0 then { r with skipFirst := segment, skipCount := 1 }
  else { r with skipCount := min (r.skipCount + 1) 255 }

/-- A skip: the segment after the failed one is next, from attempt 0 (R161). -/
def Session.skip (r : Session) (segment : Nat) : Session :=
  { r with nextSegment := segment + 1, attempts := 0 }.recordSkip segment

/-- The entry into FAULT (R163), with the expiries rearmed by R65. -/
def State.enterFault (s : State) (i : SessionId) : State :=
  ((s.updSession i fun r => (r.enter s.partTime .fault).rearm).removeEntry i).raiseFault i

/-- Failure handling of the ended record `f` (R159): retry, skip or FAULT. -/
def State.handleFailure (s : State) (i : SessionId) (f : FetchRecord) : State :=
  let r := s.session i
  if r.attempts < s.settings.retryLimit then s.setSession i (r.retry f.rung)
  else if r.live then (s.setSession i (r.skip f.segment)).raiseSkip i
  else s.enterFault i

/-- A fetch fails: its record ends, failure handling follows, and the arbiter acts on the freed slot (R154, R156). -/
def State.failFetch (s : State) (i : SessionId) (f : FetchRecord) (reason : Option CancelReason) : State :=
  ((s.endRecord i reason).handleFailure i f).reexamine i (s.toldUrgent i) true

/-! ### Completion (R151 to R153) -/

/-- The next segment, the all-fetched flag and the attempt count after a completion (R153). -/
def Session.advance (r : Session) (segment : Nat) : Session :=
  { r with
    nextSegment := segment + 1
    allFetched := r.allFetched || (!r.live && r.lastSegment == some segment)
    attempts := 0 }

/-- The completion credit: D added to the level, clamped at 120 000 (R70). -/
def Session.credit (r : Session) (now : PartTime) : Session :=
  r.writeLevel now (min (r.level now + r.segmentMs) Config.maxLevel)

/-- A completion with the actual total `total`, in the order of R152. -/
def State.complete (s : State) (i : SessionId) (f : FetchRecord) (total : Nat) : State :=
  let s2 := (s.creditBytes (total - f.received)).endRecord i none
  let s6 := s2.updSession i fun r => (((r.learn f.rung total).recordCompletion f.rung).advance f.segment).credit s.partTime
  ((s6.examinePriming i).rearm i).reexamine i (s.toldUrgent i) true

/-! ### Abandonment (R166 to R170) -/

/-- Whether an examination goes on to the remaining-time test (R167). -/
def State.examinable (s : State) (i : SessionId) (f : FetchRecord) : Bool :=
  let r := s.session i
  s.settings.abandonment && f.state == .active && decide (r.floor < f.rung) && !f.replacementMark &&
    decide (f.received < f.expected) && r.state == .playing

/-- The replacement rung of R169, given the remaining time. -/
def State.replacementRung (s : State) (i : SessionId) (f : FetchRecord) (remaining : Option Nat) : Option Nat :=
  let r := s.session i
  let share := s.share i
  let served := fun k => timeWithin (r.predictedTime share k) (s.level i) && timeBelow (r.predictedTime share k) remaining
  match highestRung r.floor (f.rung - 1) served with
  | some k => some k
  | none => if timeBelow (r.predictedTime share r.floor) remaining then some r.floor else none

/-- The examination of session `i`'s record: the replacement rung when the fetch is abandoned, none when it is kept
(R167 to R169). -/
def State.examine (s : State) (i : SessionId) : Option Nat :=
  match (s.session i).fetch with
  | none => none
  | some f =>
    if s.examinable i f then
      let remaining := transferTime (f.expected - f.received) (s.share i)
      if timeWithin remaining (s.level i) then none else s.replacementRung i f remaining
    else none

/-- Steps 1 to 3 of an abandonment (R170). -/
def State.abandon (s : State) (i : SessionId) (rung : Nat) : State :=
  (s.endRecord i (some .abandon)).updSession i fun r => { r with upHold := 0, rungLimit := some (.exact rung) }

/-- The examination at an advancing PROGRESS, with all of R170 when it abandons. -/
def State.examineAfterProgress (s : State) (i : SessionId) : State :=
  match s.examine i with
  | none => s
  | some rung => (s.abandon i rung).reexamine i (s.toldUrgent i) true

/-- The examinations one sample formation hands over: each reads the state as the formation leaves it (R166). -/
def State.abandonments (s : State) : List (SessionId × Nat) :=
  Idx4.all.filterMap fun i => (s.examine i).map fun rung => (i, rung)

/-- An entry appended for a session that wants a fetch and has none, without the grants it occasions (R170 step 4). -/
def State.appendIfJoins (s : State) (i : SessionId) : State := if s.joins i then s.appendEntry i else s

/-- The examinations after a sample formation: steps 1 to 3 of each abandonment, then step 4 once for all (R170). -/
def State.examineAll (s : State) : State :=
  match s.abandonments with
  | [] => s
  | first :: rest =>
    let list := first :: rest
    let s1 := list.foldl (fun t a => t.abandon a.1 a.2) s
    let s2 := list.foldl (fun t a => t.appendIfJoins a.1) s1
    s2.grantAll.considerAll

end Sys2Proof.Machine
end

