-- ==== Sys2Proof/Machine/DeviceRequests.lean ====
section
/-! DEFINITION. What each device request does to its owner's state and what it answers: HELLO, CONFIGURE, RESET, GRANT_HOLD,
QUERY_LINK, HISTORY (R22, ch. 5, ch. 8, ch. 11). -/

namespace Sys2Proof.Machine

open Sys2Proof

/-- What an owner answers: the result code and the result fields (R9). -/
structure Answer where
  status : Status1
  fields : List Byte
  deriving DecidableEq, Repr

/-- A refusal: a result code without result fields (R9, R11). -/
def Answer.refuse (c : Status1) : Answer := ⟨c, []⟩

/-- OK without result fields. -/
def Answer.plain : Answer := ⟨.ok, []⟩

/-! ### HELLO (R22) -/

/-- The result fields of HELLO (R22). -/
def helloFields (now : PartTime) : List Byte :=
  Config.partCode ++ [Config.revision] ++ put8 Config.maxSessions ++ put8 Config.maxRungs ++ put8 Config.maxSlots ++
    put8 Config.ringSize ++ putTime now

/-- HELLO changes no state (R22). -/
def State.serveHello (s : State) : State × Answer := (s, ⟨.ok, helloFields s.partTime⟩)

/-! ### CONFIGURE (R175, R176) -/

/-- The seven margins brought into 32..256 (R34, R175). -/
def Margins.clamped (m : Margins) : Margins :=
  ⟨clamp 32 256 m.m0, clamp 32 256 m.m1, clamp 32 256 m.m2, clamp 32 256 m.m3, clamp 32 256 m.m4, clamp 32 256 m.m5,
   clamp 32 256 m.m6⟩

/-- The settings a CONFIGURE puts in force: each field brought into its range (R175). -/
def ConfigRequest.settings (c : ConfigRequest) : Settings :=
  let af := clamp 1 4 c.fastShift
  { slotCount := clamp 1 4 c.slotCount
    window := clamp 100 2000 c.window
    fastShift := af
    slowShift := clamp (af + 1) 6 c.slowShift
    margins := c.margins.clamped
    opening := clamp 64 1000000 c.opening
    fit := clamp 128 256 c.fit
    activityTimeout := clamp 500 30000 c.activityTimeout
    retryLimit := clamp 0 7 c.retryLimit
    upHoldNeeded := clamp 1 8 c.upHold
    preemption := decide (0 < c.preemption)
    abandonment := decide (0 < c.abandonment) }

/-- The settings as a CONFIGURE request carries them. -/
def Settings.asRequest (c : Settings) : ConfigRequest where
  slotCount := c.slotCount
  window := c.window
  fastShift := c.fastShift
  slowShift := c.slowShift
  margins := c.margins
  opening := c.opening
  fit := c.fit
  activityTimeout := c.activityTimeout
  retryLimit := c.retryLimit
  upHold := c.upHoldNeeded
  preemption := c.preemption.toNat
  abandonment := c.abandonment.toNat

/-- The 31 bytes of the settings in force (01 §1.11, CONFIGURE table). -/
def Settings.fields (c : Settings) : List Byte :=
  put8 c.slotCount ++ put16 c.window ++ put8 c.fastShift ++ put8 c.slowShift ++ put16 c.margins.m0 ++ put16 c.margins.m1 ++
    put16 c.margins.m2 ++ put16 c.margins.m3 ++ put16 c.margins.m4 ++ put16 c.margins.m5 ++ put16 c.margins.m6 ++
    put32 c.opening ++ put16 c.fit ++ put16 c.activityTimeout ++ put8 c.retryLimit ++ put8 c.upHoldNeeded ++
    putFlag c.preemption ++ putFlag c.abandonment

/-- Whether any fetch record exists in the part (R176). -/
def State.anyFetch (s : State) : Bool := Idx4.all.any s.hasFetch

/-- The slot-count check of R176 refuses the request. -/
def State.configureBusy (s : State) (c : ConfigRequest) : Bool :=
  decide (c.settings.slotCount ≠ s.settings.slotCount) && s.anyFetch

/-- CONFIGURE (R175, R176). When K changes, no record exists and every slot is free already (R127). -/
def State.serveConfigure (s : State) (c : ConfigRequest) : State × Answer :=
  if s.configureBusy c then (s, .refuse .busy)
  else (s.setSettings c.settings, ⟨Status1.ofSame (c.settings.asRequest == c), c.settings.fields⟩)

/-! ### RESET (R178, R179) -/

/-- The effects of CLOSE on one session, before the arbiter acts on the freed slot (R47, R178). -/
def State.shut (s : State) (i : SessionId) : State :=
  (((s.endRecord i none).removeEntry i).clearNotices i).updSession i fun r =>
    { r.writeLevel s.partTime 0 with state := .closed }.rearm

/-- `shut` for an open session; a session already closed is unchanged (R178). -/
def State.shutIfOpen (s : State) (i : SessionId) : State := if (s.session i).isOpen then s.shut i else s

/-- RESET of scope 1: every open session closed in one act, then the arbiter acts on the freed slots (R178). -/
def State.serveResetSessions (s : State) : State × Answer :=
  ((Idx4.all.foldl State.shutIfOpen s).grantAll, .plain)

/-- RESET of scope 2: scope 1, then the estimator, the settings, the grant hold and a pending LINK (R179). -/
def State.serveResetAll (s : State) : State × Answer :=
  let s1 := s.serveResetSessions.1
  let s2 := (s1.setMeter s1.meter.clearEstimator).setSettings Settings.default
  let s3 := (s2.setArbiter { s2.arbiter with hold := false }).grantAll
  (s3.setLink { s3.link with linkNotice := false }, .plain)

/-- RESET by its scope; any other value is refused (R178). -/
def State.serveReset (s : State) (scope : Nat) : State × Answer :=
  if scope = 1 then s.serveResetSessions
  else if scope = 2 then s.serveResetAll
  else (s, .refuse .badField)

/-! ### GRANT_HOLD (R136) -/

/-- GRANT_HOLD with value 1 (R136). -/
def State.serveHold (s : State) : State × Answer := (s.setArbiter { s.arbiter with hold := true }, .plain)

/-- GRANT_HOLD with value 0: a release that finds the hold in force grants and then considers preemption; one that
finds it released changes nothing (R136, R138). -/
def State.serveRelease (s : State) : State × Answer :=
  if s.arbiter.hold then ((s.setArbiter { s.arbiter with hold := false }).grantAll.considerAll, .plain)
  else (s, .plain)

/-- GRANT_HOLD by its value; any other value is refused (R136). -/
def State.serveGrantHold (s : State) (value : Nat) : State × Answer :=
  if value = 1 then s.serveHold
  else if value = 0 then s.serveRelease
  else (s, .refuse .badField)

/-! ### QUERY_LINK (R98) and HISTORY (R99, R100) -/

/-- The ms until the window expiry (R98). -/
def State.windowRemaining (s : State) : Nat := s.meter.windowExpiry.elim 0 fun x => interval s.partTime x

/-- The result fields of QUERY_LINK (01 §1.11, R98). -/
def State.linkFields (s : State) : List Byte :=
  put8 s.contention.accepted.toNat ++ putFlag s.meter.empty ++ put32 (if s.meter.empty then 0 else s.meter.fast) ++
    put32 (if s.meter.empty then 0 else s.meter.slow) ++ put32 s.estimate ++ put32 s.settings.opening ++
    put32 s.meter.bytes ++ put16 (s.meter.busyAt s.partTime) ++ put8 s.meter.age ++ put16 s.windowRemaining ++
    put8 s.meter.ring.length

/-- QUERY_LINK changes no state (R98). -/
def State.serveQueryLink (s : State) : State × Answer := (s, ⟨.ok, s.linkFields⟩)

/-- A ring record as HISTORY carries it, 12 bytes (01 §1.11). -/
def RingRecord.fields (r : RingRecord) : List Byte :=
  putTime r.formedAt ++ put32 r.sample ++ put16 r.busy ++ put8 r.code.toNat ++ put8 r.windows

/-- The records of a HISTORY reply: `count` records from position `start`, wrapping (R100). -/
def historyRecords (ring : List RingRecord) (start count : Nat) : List RingRecord :=
  (List.range count).filterMap fun j => ring[(start + j) % ring.length]?

/-- The answer to HISTORY, decided in the order of R99. -/
def historyAnswer (ring : List RingRecord) (start countLessOne : Nat) : Answer :=
  let m := ring.length
  if m = 0 then ⟨.ok, put8 0⟩
  else if m ≤ start then .refuse .badField
  else if m < countLessOne + 1 then ⟨.clamped, put8 m ++ (historyRecords ring start m).flatMap RingRecord.fields⟩
  else ⟨.ok, put8 (countLessOne + 1) ++ (historyRecords ring start (countLessOne + 1)).flatMap RingRecord.fields⟩

/-- HISTORY changes no state (R99). -/
def State.serveHistory (s : State) (start countLessOne : Nat) : State × Answer :=
  (s, historyAnswer s.meter.ring start countLessOne)

end Sys2Proof.Machine
end

