-- ==== Sys2Proof/Machine/SessionRequests.lean ====
section
/-! DEFINITION. What each session request does: OPEN, CLOSE, LIMITS, QUERY_SESSION (ch. 3), PLAY, PAUSE, PLAYOUT, SEEK, EDGE
(ch. 4). That the session is open (R38) has been examined before, except for OPEN and QUERY_SESSION. -/

namespace Sys2Proof.Machine

open Sys2Proof

/-! ### OPEN (R42 to R46) -/

/-- Each bitrate is greater than the one before it (R39). -/
def ascending : List Nat → Bool
  | [] => true
  | [_] => true
  | a :: b :: rest => decide (a < b) && ascending (b :: rest)

/-- The description of the programme is acceptable: none of the conditions of R43 holds. -/
def OpenRequest.acceptable (o : OpenRequest) : Bool :=
  decide (1 ≤ o.rungCount ∧ o.rungCount ≤ Config.maxRungs) && o.bitrates.all (fun b => decide (32 ≤ b ∧ b ≤ 60000)) &&
    ascending o.bitrates &&
    (if o.mode = 0 then decide (o.lastSegment ≠ Config.absentSegment ∧ o.firstSegment ≤ o.lastSegment)
     else decide (o.mode = 1 ∧ o.lastSegment = Config.absentSegment))

/-- The nine values of R44, as carried or as in force. -/
structure OpenLimits where
  segmentMs : Nat
  weight : Nat
  cap : Nat
  floor : Nat
  startRung : Nat
  markL : Nat
  markT : Nat
  markH : Nat
  markS0 : Nat
  deriving DecidableEq, Repr

/-- The nine values as the request carries them. -/
def OpenRequest.carried (o : OpenRequest) : OpenLimits :=
  ⟨o.segmentMs, o.weight, o.cap, o.floor, o.startRung, o.markL, o.markT, o.markH, o.markS0⟩

/-- The nine values in force, each clamp using the values in force from the clamps before it (R44). -/
def OpenRequest.inForce (o : OpenRequest) : OpenLimits :=
  let d := clamp 500 10000 o.segmentMs
  let w := clamp 1 15 o.weight
  let c := clamp 0 (o.rungCount - 1) o.cap
  let f := clamp 0 c o.floor
  let a := clamp f c o.startRung
  let l := clamp 0 60000 o.markL
  let t := clamp (l + d) Config.maxLevel o.markT
  let h := clamp t Config.maxLevel o.markH
  ⟨d, w, c, f, a, l, t, h, clamp d h o.markS0⟩

/-- The record that OPEN writes in the single act that opens it (R45). -/
def OpenRequest.record (o : OpenRequest) (now : PartTime) : Session :=
  let v := o.inForce
  { Session.blank with
    state := .priming
    live := decide (o.mode = 1)
    ladder := o.bitrates.map fun b => ⟨b, 256, false⟩
    segmentMs := v.segmentMs
    nextSegment := o.firstSegment
    lastSegment := if o.lastSegment = Config.absentSegment then none else some o.lastSegment
    liveEdge := o.firstSegment
    weight := v.weight
    cap := v.cap
    floor := v.floor
    markL := v.markL
    markT := v.markT
    markH := v.markH
    markS0 := v.markS0
    storedLevel := 0
    refTime := now
    activeRung := v.startRung }

/-- The result fields of the OPEN reply (01 §1.11). -/
def OpenLimits.fields (v : OpenLimits) : List Byte :=
  put16 v.segmentMs ++ put8 v.weight ++ put8 v.cap ++ put8 v.floor ++ put8 v.startRung ++ put32 v.markL ++ put32 v.markT ++
    put32 v.markH ++ put32 v.markS0

/-- OPEN (R42 to R46). -/
def State.serveOpen (s : State) (i : SessionId) (o : OpenRequest) : State × Answer :=
  if (s.session i).isOpen then (s, .refuse .alreadyOpen)
  else if o.acceptable then
    ((s.setSession i (o.record s.partTime)).reexamine i false false,
     ⟨Status1.ofSame (o.inForce == o.carried), o.inForce.fields⟩)
  else (s, .refuse .badField)

/-! ### CLOSE (R47, R48) -/

/-- CLOSE of an open session; the slot it frees is an occasion of granting (R47, R48). -/
def State.serveClose (s : State) (i : SessionId) : State × Answer :=
  (if s.hasFetch i then (s.shut i).grantAll else s.shut i, .plain)

/-! ### LIMITS (R51, R52) -/

/-- The cap, floor and weight a LIMITS puts in force (R51). -/
def Session.limitsInForce (r : Session) (cap floor weight : Nat) : Nat × Nat × Nat :=
  let c := clamp 0 (r.ladder.length - 1) cap
  (c, clamp 0 c floor, clamp 1 15 weight)

/-- LIMITS changes the cap, floor and weight alone (R51, R52). -/
def State.serveLimits (s : State) (i : SessionId) (cap floor weight : Nat) : State × Answer :=
  let v := (s.session i).limitsInForce cap floor weight
  (s.updSession i fun r => { r with cap := v.1, floor := v.2.1, weight := v.2.2 },
   ⟨Status1.ofSame (v == (cap, floor, weight)), put8 v.1 ++ put8 v.2.1 ++ put8 v.2.2⟩)

/-! ### QUERY_SESSION (R53) -/

/-- The constraint as its kind and rung, 0 and 0 when absent (R53, R120). -/
def limitFields : Option RungLimit → List Byte
  | none => put8 0 ++ put8 0
  | some (.exact k) => put8 1 ++ put8 k
  | some (.atMost k) => put8 2 ++ put8 k

/-- The state byte of the fetch block (01 §1.11). -/
def FetchState.code : FetchState → Byte
  | .ordered => 1#8
  | .active => 2#8

/-- The fetch-present byte and the 26 bytes of the fetch block (01 §1.11, R53). -/
def fetchFields : Option FetchRecord → List Byte
  | none => List.replicate 27 0#8
  | some f =>
    [1#8, f.tag] ++ put32 f.segment ++ put8 f.rung ++ put32 f.expected ++ put32 f.received ++ [f.state.code] ++
      putTime f.grantTime ++ putTime f.activityExpiry ++ put8 f.attempt ++ [f.marksByte] ++ put8 f.slot.toNat

/-- One rung of the per-rung part (01 §1.11). -/
def Rung.fields (e : Rung) : List Byte := put16 e.bitrate ++ put16 e.ratio ++ putFlag e.observed

/-- The result fields of QUERY_SESSION for a record at a part time (01 §1.11, R53). -/
def Session.queryFields (r : Session) (now : PartTime) : List Byte :=
  [r.state.code] ++ putFlag r.live ++ put8 r.ladder.length ++ put16 r.segmentMs ++ put32 r.nextSegment ++
    put32 (r.lastSegment.getD Config.absentSegment) ++ put32 r.liveEdge ++ put8 r.weight ++ put8 r.cap ++ put8 r.floor ++
    put32 r.markL ++ put32 r.markT ++ put32 r.markH ++ put32 r.markS0 ++ put32 (r.level now) ++ put8 r.activeRung ++
    put8 r.upHold ++ limitFields r.rungLimit ++ [r.flagsByte] ++ put8 r.stallCount ++ put32 r.skipFirst ++
    put8 r.skipCount ++ [r.tagCounter] ++ put8 r.attempts ++ fetchFields r.fetch ++ r.ladder.flatMap Rung.fields

/-- QUERY_SESSION changes no state (R53). -/
def State.serveQuerySession (s : State) (i : SessionId) : State × Answer :=
  (s, ⟨.ok, (s.session i).queryFields s.partTime⟩)

/-! ### PLAY and PAUSE (R73 to R75) -/

/-- A change of a session's record handed to the arbiter after the expiries are rearmed (R55, R65, R130). -/
def State.settle (s : State) (i : SessionId) (wasUrgent freed : Bool) : State :=
  (s.rearm i).reexamine i wasUrgent freed

/-- PLAYING begins from PRIMED or PAUSED: at level 0 as R72 states (R73). -/
def State.startPlaying (s : State) (i : SessionId) : State :=
  if s.level i = 0 then ((s.updSession i fun r => r.writeLevel s.partTime 0).runDry i).settle i (s.toldUrgent i) false
  else (s.updSession i fun r => r.enter s.partTime .playing).settle i (s.toldUrgent i) false

/-- PLAY of one open session; none when it is refused with WRONG_STATE (R73). -/
def State.playOne (s : State) (i : SessionId) : Option State :=
  match (s.session i).state with
  | .priming => some (s.updSession i fun r => { r with autostart := true })
  | .primed => some (s.startPlaying i)
  | .playing => some s
  | .paused => some (s.startPlaying i)
  | .stalled => some s
  | .closed => none
  | .ended => none
  | .fault => none

/-- Playing or recovery stops and the level in force is stored (R73). -/
def State.stopPlaying (s : State) (i : SessionId) : State :=
  (s.updSession i fun r => { r.writeLevel s.partTime (r.level s.partTime) with state := .paused }).settle i (s.toldUrgent i)
    false

/-- PAUSE of one open session; none when it is refused with WRONG_STATE (R73). -/
def State.pauseOne (s : State) (i : SessionId) : Option State :=
  match (s.session i).state with
  | .priming => some (s.updSession i fun r => { r with autostart := false })
  | .primed => some s
  | .playing => some (s.stopPlaying i)
  | .paused => some s
  | .stalled => some (s.stopPlaying i)
  | .closed => none
  | .ended => none
  | .fault => none

/-- The answer to a PLAY or PAUSE of one session: OK, or WRONG_STATE without effect (R73). -/
def answerOne (s : State) (r : Option State) : State × Answer :=
  match r with
  | some t => (t, .plain)
  | none => (s, .refuse .wrongState)

/-- One session's turn in a broadcast: its bit is set when it took the request (R21). A closed session takes nothing. -/
def broadcastTurn (one : State → SessionId → Option State) (acc : State × Byte) (i : SessionId) : State × Byte :=
  match one acc.1 i with
  | some t => (t, acc.2 ||| maskBit i)
  | none => acc

/-- A broadcast: sessions 0 to 3 in that order, each complete before the next, then OK with the mask (R21, R75). -/
def State.broadcast (s : State) (one : State → SessionId → Option State) : State × Answer :=
  let r := Idx4.all.foldl (broadcastTurn one) (s, 0#8)
  (r.1, ⟨.ok, [r.2]⟩)

/-! ### PLAYOUT (R76, R77) -/

/-- The zero-level rule for a PLAYING session (R72, R77). -/
def State.examineZero (s : State) (i : SessionId) : State :=
  if (s.session i).state = .playing ∧ (s.session i).storedLevel = 0 then s.runDry i else s

/-- PLAYOUT (R76, R77). -/
def State.servePlayout (s : State) (i : SessionId) (level : Nat) : State × Answer :=
  match (s.session i).state with
  | .closed => (s, .refuse .wrongState)
  | .ended => (s, .refuse .wrongState)
  | .fault => (s, .refuse .wrongState)
  | .priming | .primed | .playing | .paused | .stalled =>
    let v := min level Config.maxLevel
    let s1 := s.updSession i fun r => r.writeLevel s.partTime v
    let s2 := ((s1.examinePriming i).examineZero i).settle i (s.toldUrgent i) false
    (s2, ⟨Status1.ofSame (decide (v = level)), put32 (s2.level i)⟩)

/-! ### SEEK (R78, R79) -/

/-- A SEEK names a segment beyond the last of an on-demand session (R78). -/
def Session.seekBeyond (r : Session) (segment : Nat) : Bool :=
  !r.live && r.lastSegment.elim false (fun l => decide (l < segment))

/-- The changes of R78 to the record, steps 3 to 7. -/
def Session.seekTo (r : Session) (now : PartTime) (segment : Nat) : Session :=
  { r.writeLevel now 0 with
    nextSegment := segment
    allFetched := false
    upHold := 0
    rungLimit := none
    attempts := 0
    autostart := r.state == .playing
    state := .priming }

/-- SEEK (R78, R79). -/
def State.serveSeek (s : State) (i : SessionId) (segment : Nat) : State × Answer :=
  if (s.session i).seekBeyond segment then (s, .refuse .badField)
  else
    let s2 := (s.endRecord i none).removeEntry i
    ((s2.updSession i fun r => r.seekTo s.partTime segment).settle i (s.toldUrgent i) (s.hasFetch i), .plain)

/-! ### EDGE (R80, R81) -/

/-- EDGE (R80, R81). -/
def State.serveEdge (s : State) (i : SessionId) (segment : Nat) : State × Answer :=
  let r := s.session i
  if r.live then
    if r.liveEdge < segment then
      ((s.setSession i { r with liveEdge := segment }).reexamine i (s.toldUrgent i) false, ⟨.ok, put32 segment⟩)
    else (s, ⟨.ok, put32 r.liveEdge⟩)
  else (s, .refuse .wrongState)

end Sys2Proof.Machine
end

