-- ==== Sys2Proof/Machine/FetchReports.lean ====
section
/-! DEFINITION. The four fetch reports START, PROGRESS, DONE and FAIL (R148 to R154). That the session is open has been
examined before (R38). -/

namespace Sys2Proof.Machine

open Sys2Proof

/-- The session's record when the report's tag is its tag; none is a report refused with STALE_TAG (R148). -/
def State.matchReport (s : State) (i : SessionId) (tag : Byte) : Option FetchRecord :=
  match (s.session i).fetch with
  | some f => if f.tag = tag then some f else none
  | none => none

/-- The session's fetch record replaced. -/
def State.setFetch (s : State) (i : SessionId) (f : FetchRecord) : State :=
  s.updSession i fun r => { r with fetch := some f }

/-- The record made ACTIVE, with the busy reckoning told (R87, R149, R150). -/
def State.activate (s : State) (i : SessionId) (f : FetchRecord) : State :=
  (s.setFetch i { f with state := .active }).setMeter (s.meter.activeUp s.partTime)

/-- START taken for an ORDERED record (R149). -/
def State.takeStart (s : State) (i : SessionId) (f : FetchRecord) (size : Nat) : State :=
  s.activate i { f with
    expected := if size = 0 then f.expected else size
    activityExpiry := later s.partTime s.settings.activityTimeout }

/-- START (R149). -/
def State.serveStart (s : State) (i : SessionId) (tag : Byte) (size : Nat) : State × Answer :=
  match s.matchReport i tag with
  | none => (s, .refuse .staleTag)
  | some f =>
    match f.state with
    | .ordered => (s.takeStart i f size, .plain)
    | .active => (s, .refuse .wrongState)

/-- The effects of a count above Rcv on an ACTIVE record, before the examination (R150). -/
def State.advanceReceived (s : State) (i : SessionId) (f : FetchRecord) (count : Nat) : State :=
  (s.creditBytes (count - f.received)).setFetch i { f with
    received := count
    expected := max f.expected count
    activityExpiry := later s.partTime s.settings.activityTimeout }

/-- PROGRESS taken for a record (R150). -/
def State.takeProgress (s : State) (i : SessionId) (f : FetchRecord) (count : Nat) : State :=
  let s1 := if f.state = .ordered then s.activate i f else s
  if f.received < count then (s1.advanceReceived i { f with state := .active } count).examineAfterProgress i else s1

/-- PROGRESS (R150). -/
def State.serveProgress (s : State) (i : SessionId) (tag : Byte) (count : Nat) : State × Answer :=
  match s.matchReport i tag with
  | none => (s, .refuse .staleTag)
  | some f => (s.takeProgress i f count, .plain)

/-- DONE: the completion with the greater of the total and Rcv (R151), noted for the considerations of its part time
(R142). -/
def State.serveDone (s : State) (i : SessionId) (tag : Byte) (total : Nat) : State × Answer :=
  match s.matchReport i tag with
  | none => (s, .refuse .staleTag)
  | some f => ((s.complete i f (max total f.received)).noteDone s i f, .plain)

/-- FAIL (R154). -/
def State.serveFail (s : State) (i : SessionId) (tag : Byte) (reason : Nat) : State × Answer :=
  match s.matchReport i tag with
  | none => (s, .refuse .staleTag)
  | some f => if 1 ≤ reason ∧ reason ≤ 3 then (s.failFetch i f none, .plain) else (s, .refuse .badField)

end Sys2Proof.Machine
end

