-- ==== Sys2Proof/Machine/Link.lean ====
section
/-! DEFINITION. The Control Link Unit: serving a complete frame, the reply queue, the transmitter and the receiver (ch. 1). -/

namespace Sys2Proof.Machine

open Sys2Proof

/-! ### Serving a request with a valid target (R8, R9, R38) -/

/-- A device request passed to its owner (R9); none when the kind does not take the device as its target (R8). -/
def State.serveDevice (s : State) (k : ReqKind) (p : List Byte) : Option (State × Answer) :=
  match k with
  | .hello => some s.serveHello
  | .configure => some (s.serveConfigure (ConfigRequest.ofPayload p))
  | .reset => some (s.serveReset (byteAt p 0))
  | .grantHold => some (s.serveGrantHold (byteAt p 0))
  | .queryLink => some s.serveQueryLink
  | .history => some (s.serveHistory (byteAt p 0) (byteAt p 1))
  | .openSession | .closeSession | .play | .pause | .seek | .limits | .playout | .edge | .querySession
  | .start | .progress | .done | .fail => none

/-- A request that only an open record takes: NOT_OPEN for a closed one (R38). -/
def State.ifOpen (s : State) (i : SessionId) (answer : State × Answer) : State × Answer :=
  if (s.session i).isOpen then answer else (s, .refuse .notOpen)

/-- A session request passed to its owner (R9, R38); none when the kind does not take a session as its target (R8). -/
def State.serveSession (s : State) (k : ReqKind) (i : SessionId) (p : List Byte) : Option (State × Answer) :=
  match k with
  | .openSession => some (s.serveOpen i (OpenRequest.ofPayload p))
  | .closeSession => some (s.ifOpen i (s.serveClose i))
  | .play => some (s.ifOpen i (answerOne s (s.playOne i)))
  | .pause => some (s.ifOpen i (answerOne s (s.pauseOne i)))
  | .seek => some (s.ifOpen i (s.serveSeek i (field32 p 0)))
  | .limits => some (s.ifOpen i (s.serveLimits i (byteAt p 0) (byteAt p 1) (byteAt p 2)))
  | .playout => some (s.ifOpen i (s.servePlayout i (field32 p 0)))
  | .edge => some (s.ifOpen i (s.serveEdge i (field32 p 0)))
  | .querySession => some (s.serveQuerySession i)
  | .start => some (s.ifOpen i (s.serveStart i (p.getD 0 0#8) (field32 p 1)))
  | .progress => some (s.ifOpen i (s.serveProgress i (p.getD 0 0#8) (field32 p 1)))
  | .done => some (s.ifOpen i (s.serveDone i (p.getD 0 0#8) (field32 p 1)))
  | .fail => some (s.ifOpen i (s.serveFail i (p.getD 0 0#8) (byteAt p 1)))
  | .hello | .configure | .reset | .grantHold | .queryLink | .history => none

/-- A broadcast (R21); none when the kind does not take all sessions as its target (R8). -/
def State.serveAll (s : State) (k : ReqKind) : Option (State × Answer) :=
  match k with
  | .play => some (s.broadcast State.playOne)
  | .pause => some (s.broadcast State.pauseOne)
  | .hello | .configure | .reset | .grantHold | .queryLink | .history | .openSession | .closeSession | .seek | .limits
  | .playout | .edge | .querySession | .start | .progress | .done | .fail => none

/-- A request without a frame fault: served when its target is valid for its kind, else refused with BAD_TARGET
(R8, R9). -/
def State.serve (s : State) (k : ReqKind) (target : Byte) (p : List Byte) : State × Answer :=
  let served := match Target.ofByte target with
    | some .device => s.serveDevice k p
    | some (.session i) => s.serveSession k i p
    | some .all => s.serveAll k
    | none => none
  served.getD (s, .refuse .badTarget)

/-! ### Replies (R6, R7, R9, R12) -/

/-- A reply placed at the tail of the reply queue (R12). -/
def State.queueReply (s : State) (r : Reply) : State := s.setLink { s.link with replies := s.link.replies ++ [r] }

/-- The status-only reply to a frame with a fault (R7). -/
def faultReply (kind target faultBit : Byte) : Reply := ⟨replyKind kind, target, faultBit, .notExecuted, []⟩

/-- A request served and its reply queued (R9). -/
def State.answerRequest (s : State) (k : ReqKind) (target : Byte) (p : List Byte) : State :=
  let r := s.serve k target p
  r.1.queueReply ⟨replyKind k.code, target, 0#8, r.2.status, r.2.fields⟩

/-- A complete frame that has room for its reply, checked for frame faults in the order of R7. -/
def State.checkFrame (s : State) (kind target len : Byte) (p : List Byte) (sum : Byte) : State :=
  if sum ≠ frameSum kind target len p then s.queueReply (faultReply kind target sumBadBit)
  else match ReqKind.ofCode kind with
    | none => s.queueReply (faultReply kind target kindUnknownBit)
    | some k =>
      if k.requiredLength p ≠ some len.toNat then s.queueReply (faultReply kind target lenBadBit)
      else s.answerRequest k target p

/-! ### Notices (R15) -/

/-- E, F and S as a LINK notice carries them at its send (01 §1.11, R32). -/
def State.linkNoticePayload (s : State) : List Byte :=
  put8 s.contention.accepted.toNat ++ put32 s.estimate ++ put32 (if s.meter.empty then 0 else s.meter.fast) ++
    put32 (if s.meter.empty then 0 else s.meter.slow)

/-- The payload of an ORDER, built from the record (R147). -/
def orderPayload : Option FetchRecord → List Byte
  | some f => [f.tag] ++ put32 f.segment ++ put8 f.rung ++ put32 f.expected ++ [f.marksByte]
  | none => []

/-- The payload of a CANCEL, from what was captured (R15). -/
def CancelContent.payload (c : CancelContent) : List Byte := [c.tag, c.reason.code]

/-- A notice frame begins transmission: the rotation pointer names its source (R15, R20). -/
def State.sendNotice (s : State) (src : NoticeSource) (kind target : Byte) (payload : List Byte) : State :=
  s.setLink { s.link with rotation := src, tx := .notice (frameBytes kind target payload 0#8) }

/-- The first pending kind of a session in the order CANCEL, ORDER, SKIP, STALL, READY, FAULT begins transmission: it
leaves the pending set and its payload is built from the state as it stands (R15, R20). -/
def State.sendSessionNotice (s : State) (i : SessionId) : State :=
  let r := s.session i
  let n := s.notices i
  let send := fun (t : State) (kind : Byte) (payload : List Byte) => t.sendNotice (.session i) kind (sessionByte i) payload
  match n.cancel with
  | some c => send (s.updNotices i fun n => { n with cancel := none }) 0x41#8 c.payload
  | none =>
    if n.order then send (s.updNotices i fun n => { n with order := false }) 0x40#8 (orderPayload r.fetch)
    else if n.skip then
      send ((s.updNotices i fun n => { n with skip := false }).updSession i fun r => { r with skipCount := 0 }) 0x42#8
        (put32 r.skipFirst ++ put8 r.skipCount)
    else match n.stall with
      | some t => send (s.updNotices i fun n => { n with stall := none }) 0x43#8 (put8 r.stallCount ++ putTime t)
      | none =>
        if n.ready then send (s.updNotices i fun n => { n with ready := false }) 0x44#8 (put32 (s.level i))
        else if n.fault then send (s.updNotices i fun n => { n with fault := false }) 0x45#8 [1#8]
        else s

/-- LINK begins transmission (R15). -/
def State.sendLinkNotice (s : State) : State :=
  (s.setLink { s.link with linkNotice := false }).sendNotice .device 0x4F#8 Config.deviceTarget s.linkNoticePayload

/-- Whether a source's pending set holds a kind (R14). -/
def State.hasNotice (s : State) : NoticeSource → Bool
  | .device => s.link.linkNotice
  | .session i => decide (s.notices i ≠ NoticeSet.empty)

/-- The sources in cyclic order, from the one after the source served last (R20). -/
def NoticeSource.turnsAfter : NoticeSource → List NoticeSource
  | .device => [.session .i0, .session .i1, .session .i2, .session .i3, .device]
  | .session .i0 => [.session .i1, .session .i2, .session .i3, .device, .session .i0]
  | .session .i1 => [.session .i2, .session .i3, .device, .session .i0, .session .i1]
  | .session .i2 => [.session .i3, .device, .session .i0, .session .i1, .session .i2]
  | .session .i3 => [.device, .session .i0, .session .i1, .session .i2, .session .i3]

/-- The source whose turn it is (R20). -/
def State.nextSource (s : State) : Option NoticeSource := s.link.rotation.turnsAfter.find? s.hasNotice

/-! ### The transmitter (R10, R19) -/

/-- A reply begins transmission: bit 3 of STATUS0 is filled in from OVERRUN_SEEN, which is cleared (R10). -/
def State.sendReply (s : State) (r : Reply) : State :=
  s.setLink { s.link with tx := .reply (r.frame s.link.overrunSeen), overrunSeen := false, replyBegun := true }

/-- One notice begins transmission, chosen by rotation; none is pending, none begins (R15, R20). -/
def State.chooseNotice (s : State) : State :=
  match s.nextSource with
  | some .device => s.sendLinkNotice
  | some (.session i) => s.sendSessionNotice i
  | none => s

/-- The transmitter's choice: the oldest reply, else one notice by rotation, else idle (R19). Until a first reply has begun
no notice is sent: the first frame the part can send is the reply to the host's first request (R180). R19 and R30 taken alone
would send a LINK before it (DEDUCED, log 22). -/
def State.chooseFrame (s : State) : State :=
  match s.link.replies with
  | r :: _ => s.sendReply r
  | [] => if s.link.replyBegun then s.chooseNotice else s

/-- An idle transmitter begins the oldest reply when the event that queued it has completed all of its effects (R19). -/
def State.transmitReply (s : State) : State :=
  match s.link.tx, s.link.replies with
  | .idle, r :: _ => s.sendReply r
  | .idle, [] => s
  | .reply _, _ => s
  | .notice _, _ => s

/-- An idle transmitter leaves its idle state when it has something to send (R19). What an event has raised is chosen so at
the start of the next event that could reach it, or of FRAME_SENT, whichever comes first (log 23). -/
def State.leaveIdle (s : State) : State :=
  match s.link.tx with
  | .idle => s.chooseFrame
  | .reply _ => s
  | .notice _ => s

/-! ### A complete frame (R6, R174, R181) -/

/-- Whether a complete frame is a CLOSE or RESET that is taken and that clears the notice whose turn it is (R18, R47, R178,
R179). -/
def State.clearsNext (s : State) (kind target len : Byte) (p : List Byte) (sum : Byte) : Bool :=
  sum == frameSum kind target len p &&
  (ReqKind.ofCode kind).elim false fun k =>
    k.requiredLength p == some len.toNat &&
    match k, Target.ofByte target, s.nextSource with
    | .closeSession, some (.session i), some (.session j) => i == j && (s.session i).isOpen
    | .reset, some .device, some (.session _) => byteAt p 0 == 1 || byteAt p 0 == 2
    | .reset, some .device, some .device => byteAt p 0 == 2
    | _, _, _ => false

/-- A complete frame. The choice of an idle transmitter comes first (R19), unless the frame is a CLOSE or RESET of the same
part time that clears the notice it would choose, which is then not sent (R174, R181; log 23). The frame is discarded with
OVERRUN_SEEN set when the reply queue is full, else checked (R6). -/
def State.completeFrame (s : State) (kind target len : Byte) (p : List Byte) (sum : Byte) : State :=
  let t := if s.clearsNext kind target len p sum then s else s.leaveIdle
  if Config.replyRoom ≤ t.link.replies.length then t.setLink { t.link with overrunSeen := true }
  else t.checkFrame kind target len p sum

/-- The frame in transmission ends; a reply leaves the queue from its head (R12, R19). -/
def State.endFrame (s : State) : State :=
  match s.link.tx with
  | .idle => s
  | .reply _ => s.setLink { s.link with tx := .idle, replies := s.link.replies.tail }
  | .notice _ => s.setLink { s.link with tx := .idle }

/-! ### The receiver (R3 to R5) -/

/-- The receiver takes bytes from the first rise of RDY (R5). -/
def State.receives (s : State) : Bool := s.nrstHigh && s.link.rdyRisen

/-- A byte of a frame is taken: the framer moves on and the gap expiry is set anew (R3, R4). -/
def State.moveFramer (s : State) (f : Framer) : State :=
  s.setLink { s.link with framer := f, gap := some (later s.partTime Config.gapMs) }

/-- The receiver returns to HUNT, with no gap expiry (R3, R4). -/
def State.resetFramer (s : State) : State := s.setLink { s.link with framer := .hunt, gap := none }

/-- A byte reaches the receiver (R3). A frame complete at its SUM byte is dealt with, and then an idle transmitter
begins the oldest reply (R6, R19). -/
def State.takeByte (s : State) (b : Byte) : State :=
  match s.link.framer with
  | .hunt => if b = Config.sync then s.moveFramer .kind else s
  | .kind => s.moveFramer (.target b)
  | .target k => s.moveFramer (.len k b)
  | .len k t => if b = 0#8 then s.moveFramer (.sum k t b []) else s.moveFramer (.payload k t b [])
  | .payload k t l p =>
    if p.length + 1 < l.toNat then s.moveFramer (.payload k t l (p ++ [b])) else s.moveFramer (.sum k t l (p ++ [b]))
  | .sum k t l p => (s.resetFramer.completeFrame k t l p b).transmitReply

/-- A byte arrives on RXD: it is ignored until RDY has first risen (R5). -/
def State.receive (s : State) (b : Byte) : State := if s.receives then s.takeByte b else s

/-- Bytes arrive on RXD one after another at the present part time. -/
def State.receiveAll (s : State) (bs : List Byte) : State := bs.foldl State.receive s

/-- A request's whole frame arrives (log 3): SYNC, KIND, TARGET, LEN, payload and SUM, as the line carried them. -/
def State.receiveRequest (s : State) (k : ReqKind) (w : Wire) (payload : List Byte) : State :=
  s.receiveAll (frameBytes k.code w.target payload w.sumError)

/-- The gap expiry falls when it is due: the frame taken so far is discarded (R4). -/
def State.fallGap (s : State) : State := if isDue s.link.gap s.partTime then s.resetFramer else s

end Sys2Proof.Machine
end

