-- ==== Sys2Proof/Machine/Expiries.lean ====
section
/-! DEFINITION. The part's own expiries: activity, stall, low, refill and window (R27, R66 to R68, R83, R88, R156). An expiry
falls when it is armed at the present part time; one that is not does not fall, and then nothing happens (log 4). An event
that falls finds the choice of an idle transmitter made (R19, log 23). -/

namespace Sys2Proof.Machine

open Sys2Proof

/-- ACTIVITY_EXPIRY's effect on the part, when it is due (R156). -/
def State.fallActivity (s : State) (i : SessionId) : State :=
  match (s.session i).fetch with
  | none => s
  | some f => if f.activityExpiry = s.partTime then s.leaveIdle.failFetch i f (some .timeout) else s

/-- The stall expiry falls: level 0, then ENDED or STALLED, expiries rearmed, arbiter told (R66). -/
def State.stallNow (s : State) (i : SessionId) : State :=
  ((s.updSession i fun r => r.writeLevel s.partTime 0).runDry i).settle i (s.toldUrgent i) false

/-- STALL_EXPIRY's effect, when it is due (R66). -/
def State.fallStall (s : State) (i : SessionId) : State :=
  if isDue (s.session i).stallExpiry s.partTime then s.leaveIdle.stallNow i else s

/-- The low expiry falls: it is clear until the next rearming, and the arbiter is told that the session has just become
urgent (R67). -/
def State.lowNow (s : State) (i : SessionId) : State :=
  (s.updSession i fun r => { r with lowExpiry := none }).reexamine i false false

/-- LOW_EXPIRY's effect, when it is due (R67). -/
def State.fallLow (s : State) (i : SessionId) : State :=
  if isDue (s.session i).lowExpiry s.partTime then s.leaveIdle.lowNow i else s

/-- The refill expiry falls: it is clear, and the arbiter re-examines the session (R68). -/
def State.refillNow (s : State) (i : SessionId) : State :=
  (s.updSession i fun r => { r with refillExpiry := none }).reexamine i (s.toldUrgent i) false

/-- REFILL_EXPIRY's effect, when it is due (R68). -/
def State.fallRefill (s : State) (i : SessionId) : State :=
  if isDue (s.session i).refillExpiry s.partTime then s.leaveIdle.refillNow i else s

/-- Whether the window expiry at the present part time forms a sample (R88). -/
def State.formsSample (s : State) : Bool :=
  sampleForms s.meter.windowLength (s.meter.busyAt s.partTime) (s.meter.age + 1)

/-- The window ends: the window-end steps with the ended window's length, the next window armed, and after a formation
the examinations (R83, R88, R95). -/
def State.windowNow (s : State) : State :=
  let s1 := s.setMeter
    ((s.meter.endWindow s.settings s.contention.accepted s.partTime).armWindow s.settings s.partTime)
  if s.formsSample then s1.examineAll else s1

/-- WINDOW_EXPIRY's effect, when it is due (R88). -/
def State.fallWindow (s : State) : State :=
  if isDue s.meter.windowExpiry s.partTime then s.leaveIdle.windowNow else s

/-- The RDY expiry falls, when it is due: RDY rises for the first time (R180). -/
def State.fallRdy (s : State) : State :=
  if isDue s.link.rdyExpiry s.partTime then
    (s.setLink { s.link with rdyExpiry := none, rdyRisen := true })
  else s

/-! ### The contention code (R28 to R31) -/

/-- The hand-offs of an acceptance (R31): LINK is raised, E reads the new margin from now on, and the end of code 7 is
an occasion of granting and then of considering preemption (R137, R138). -/
def State.acceptCode (s : State) (code : Code) : State :=
  let old := s.contention.accepted
  let s1 := (s.setContention { s.contention with accepted := code }).raiseLink
  if old = 7#3 then s1.grantAll.considerAll else s1

/-- A line sample is dealt with (R29). -/
def State.dealWithSample (s : State) (code : Code) : State :=
  let s1 := s.leaveIdle.setContention { s.contention with lastSample := some code }
  if s.contention.lastSample = some code ∧ s.contention.accepted ≠ code then s1.acceptCode code else s1

/-- The held sample, if there is one, is dealt with now (log 6). -/
def State.settleSample (s : State) : State :=
  match s.contention.held with
  | none => s
  | some code => (s.setContention { s.contention with held := none }).dealWithSample code

/-- All that is due at the present part time and has not been taken is taken, in a fixed one of the orders R27 allows:
an advance finds nothing left behind (log 5). An idle transmitter with something to send then begins it: it makes its choice
at once, and so before part time advances (R19, log 23). -/
def State.takeAllDue (s : State) : State :=
  let s1 := s.fallGap.fallRdy.settleSample.fallWindow
  (Idx4.all.foldl (fun t i => (((t.fallActivity i).fallStall i).fallRefill i).fallLow i) s1).leaveIdle

/-- Part time advances by 1 modulo 2^32 (R25), and the DONEs of the part time gone by are no longer noted (log 24). -/
def State.tick (s : State) : State :=
  { s with partTime := s.partTime + 1#32, arbiter := { s.arbiter with doneGrants := Four.const none } }

/-- The advance: what is due is taken first (log 5), then part time advances (R25). -/
def State.advance (s : State) : State := s.takeAllDue.tick

/-- The advance with its line sample, read at the advance (R28): dealt with at once, or held; or a held sample dealt
with at the present part time (R33, log 6). -/
def State.advanceAs (s : State) : Advance → State
  | .atOnce cc => s.advance.dealWithSample (lineCode cc)
  | .hold cc => let t := s.advance; t.setContention { t.contention with held := some (lineCode cc) }
  | .settle => s.settleSample

end Sys2Proof.Machine
end

