-- ==== Sys2Proof/Machine/Requests.lean ====
section
/-! DEFINITION. The meanings of the request commands. Each is its frame's arrival at the receiver (log 3): the room check
(R6), the frame checks (R7), the target check (R8) and the owner's service (R9) all lie on that way. -/

namespace Sys2Proof.Machine

open Sys2Proof

/-- What a meaning answers. -/
abbrev Result := Host.Outcome State Fault Refusal

/-- HELLO (R22). -/
def execHello (w : Wire) (s : State) : Result := .next (s.receiveRequest .hello w [])

/-- CONFIGURE (R175). -/
def execConfigure (w : Wire) (c : ConfigFields) (s : State) : Result := .next (s.receiveRequest .configure w (configPayload c))

/-- RESET_SESSIONS (R178: RESET with scope 1). -/
def execResetSessions (w : Wire) (s : State) : Result := .next (s.receiveRequest .reset w [1#8])

/-- RESET_ALL (R179: RESET with scope 2). -/
def execResetAll (w : Wire) (s : State) : Result := .next (s.receiveRequest .reset w [2#8])

/-- GRANT_HOLD (R136: GRANT_HOLD with value 1). -/
def execGrantHold (w : Wire) (s : State) : Result := .next (s.receiveRequest .grantHold w [1#8])

/-- GRANT_HOLD_RELEASE (R136: GRANT_HOLD with value 0). -/
def execGrantHoldRelease (w : Wire) (s : State) : Result := .next (s.receiveRequest .grantHold w [0#8])

/-- QUERY_LINK (R98). -/
def execQueryLink (w : Wire) (s : State) : Result := .next (s.receiveRequest .queryLink w [])

/-- HISTORY (R99). -/
def execHistory (w : Wire) (start countLessOne : Byte) (s : State) : Result := .next (s.receiveRequest .history w [start, countLessOne])

/-- OPEN (R42 to R46). -/
def execOpenSession (w : Wire) (o : OpenFields) (s : State) : Result := .next (s.receiveRequest .openSession w (openPayload o))

/-- CLOSE (R47). -/
def execCloseSession (w : Wire) (s : State) : Result := .next (s.receiveRequest .closeSession w [])

/-- PLAY (R73). -/
def execPlay (w : Wire) (s : State) : Result := .next (s.receiveRequest .play w [])

/-- PAUSE (R73). -/
def execPause (w : Wire) (s : State) : Result := .next (s.receiveRequest .pause w [])

/-- SEEK (R78). -/
def execSeek (w : Wire) (segment : BitVec 32) (s : State) : Result := .next (s.receiveRequest .seek w (le32 segment))

/-- LIMITS (R51). -/
def execLimits (w : Wire) (cap floor weight : Byte) (s : State) : Result := .next (s.receiveRequest .limits w [cap, floor, weight])

/-- PLAYOUT (R76). -/
def execPlayout (w : Wire) (level : BitVec 32) (s : State) : Result := .next (s.receiveRequest .playout w (le32 level))

/-- EDGE (R80). -/
def execEdge (w : Wire) (segment : BitVec 32) (s : State) : Result := .next (s.receiveRequest .edge w (le32 segment))

/-- QUERY_SESSION (R53). -/
def execQuerySession (w : Wire) (s : State) : Result := .next (s.receiveRequest .querySession w [])

/-- START (R149). -/
def execFetchStart (w : Wire) (tag : Byte) (size : BitVec 32) (s : State) : Result := .next (s.receiveRequest .start w (tag :: le32 size))

/-- PROGRESS (R150). -/
def execFetchProgress (w : Wire) (tag : Byte) (count : BitVec 32) (s : State) : Result := .next (s.receiveRequest .progress w (tag :: le32 count))

/-- DONE (R151). -/
def execFetchDone (w : Wire) (tag : Byte) (total : BitVec 32) (s : State) : Result := .next (s.receiveRequest .done w (tag :: le32 total))

/-- FAIL (R154). -/
def execFetchFail (w : Wire) (tag reason : Byte) (s : State) : Result := .next (s.receiveRequest .fail w [tag, reason])

end Sys2Proof.Machine
end

