-- ==== Sys2Proof/Machine/Reset.lean ====
section
/-! DEFINITION. The meanings of PIN_RESET, NRST_RELEASE and RDY_FIRST_RISE (R180). -/

namespace Sys2Proof.Machine

open Sys2Proof

/-- The part with NRST low: every piece of state at its pin-reset value; the queue of commands is not the part's
(R180). -/
def State.held (s : State) : State := { State.reset with pending := s.pending }

/-- The line rate that a level of BAUD selects (R1). -/
def lineRateOf (baudHigh : Bool) : LineRate := if baudHigh then .baud3000000 else .baud921600

/-- The release of NRST: from the values held while it was low, the line rate is taken from BAUD (R1), part time starts
at 0 (R25), the window expiry is armed at W (R83) and the RDY expiry at part time 2 (R180). -/
def State.release (s : State) (baudHigh : Bool) : State :=
  { s.held with
    nrstHigh := true
    partTime := 0#32
    link := { ControlLink.reset with lineRate := lineRateOf baudHigh, rdyExpiry := some Config.rdyRiseAt }
    meter := LinkMeter.reset.armWindow Settings.default 0#32 }

/-- PIN_RESET: NRST is driven low, and everything in flight is lost (R180). -/
def execPinReset (s : State) : Result := .next s.held

/-- NRST_RELEASE: a release ends a pin reset; with NRST high already there is nothing to release, and BAUD has no effect
(R1, R180, log 4). -/
def execNrstRelease (baudHigh : Bool) (s : State) : Result := .next (if s.nrstHigh then s else s.release baudHigh)

/-- RDY_FIRST_RISE: the RDY expiry falls when it is due (R180, R27). -/
def execRdyFirstRise (s : State) : Result := .next (if s.nrstHigh then s.fallRdy else s)

end Sys2Proof.Machine
end

