-- ==== Sys2Proof/Machine/Events.lean ====
section
/-! DEFINITION. The meanings of the time base's advance, of the part's expiries, of the transmitter's FRAME_SENT and of
CHARACTER_RECEIVED. While NRST is low no event is taken (R180). -/

namespace Sys2Proof.Machine

open Sys2Proof

/-- An event's effect: none while NRST is low (R180). -/
def whileRunning (s t : State) : Result := .next (if s.nrstHigh then t else s)

/-- PART_TIME_ADVANCE (R25, R28 to R31). -/
def execPartTimeAdvance (how : Advance) (s : State) : Result := whileRunning s (s.advanceAs how)

/-- INTER_BYTE_GAP_EXPIRY (R4). -/
def execInterByteGapExpiry (s : State) : Result := whileRunning s s.fallGap

/-- ACTIVITY_EXPIRY (R156). -/
def execActivityExpiry (i : SessionId) (s : State) : Result := whileRunning s (s.fallActivity i)

/-- STALL_EXPIRY (R66). -/
def execStallExpiry (i : SessionId) (s : State) : Result := whileRunning s (s.fallStall i)

/-- LOW_EXPIRY (R67). -/
def execLowExpiry (i : SessionId) (s : State) : Result := whileRunning s (s.fallLow i)

/-- REFILL_EXPIRY (R68). -/
def execRefillExpiry (i : SessionId) (s : State) : Result := whileRunning s (s.fallRefill i)

/-- WINDOW_EXPIRY (R83, R88). -/
def execWindowExpiry (s : State) : Result := whileRunning s s.fallWindow

/-- FRAME_SENT: the frame in transmission ends, or the transmitter leaves its idle state, and it chooses the next frame (R12,
R19, log 18). -/
def execFrameSent (s : State) : Result := whileRunning s s.endFrame.chooseFrame

/-- CHARACTER_RECEIVED: a character whose stop bit is low is dropped (R1); any other is a byte for the receiver (R3). -/
def execCharacterReceived (stopHigh : Bool) (b : Byte) (s : State) : Result :=
  .next (if stopHigh then s.receive b else s)

end Sys2Proof.Machine
end

