-- ==== Sys2Proof/Machine/Dispatch.lean ====
section
/-! DEFINITION. One arm per command, each one direct call of its meaning. -/

namespace Sys2Proof.Machine

open Sys2Proof

/-- The effect of a command on everything but the queue. -/
def exec (cmd : Instr) (s : State) : Host.Outcome State Fault Refusal :=
  match cmd with
  | .pinReset => Sys2Proof.Machine.execPinReset s
  | .nrstRelease baudHigh => Sys2Proof.Machine.execNrstRelease baudHigh s
  | .rdyFirstRise => Sys2Proof.Machine.execRdyFirstRise s
  | .partTimeAdvance how => Sys2Proof.Machine.execPartTimeAdvance how s
  | .interByteGapExpiry => Sys2Proof.Machine.execInterByteGapExpiry s
  | .hello w => Sys2Proof.Machine.execHello w s
  | .configure w c => Sys2Proof.Machine.execConfigure w c s
  | .resetSessions w => Sys2Proof.Machine.execResetSessions w s
  | .resetAll w => Sys2Proof.Machine.execResetAll w s
  | .grantHold w => Sys2Proof.Machine.execGrantHold w s
  | .grantHoldRelease w => Sys2Proof.Machine.execGrantHoldRelease w s
  | .queryLink w => Sys2Proof.Machine.execQueryLink w s
  | .history w start countLessOne => Sys2Proof.Machine.execHistory w start countLessOne s
  | .openSession w o => Sys2Proof.Machine.execOpenSession w o s
  | .closeSession w => Sys2Proof.Machine.execCloseSession w s
  | .play w => Sys2Proof.Machine.execPlay w s
  | .pause w => Sys2Proof.Machine.execPause w s
  | .seek w segment => Sys2Proof.Machine.execSeek w segment s
  | .limits w cap floor weight => Sys2Proof.Machine.execLimits w cap floor weight s
  | .playout w level => Sys2Proof.Machine.execPlayout w level s
  | .edge w segment => Sys2Proof.Machine.execEdge w segment s
  | .querySession w => Sys2Proof.Machine.execQuerySession w s
  | .fetchStart w tag size => Sys2Proof.Machine.execFetchStart w tag size s
  | .fetchProgress w tag count => Sys2Proof.Machine.execFetchProgress w tag count s
  | .fetchDone w tag total => Sys2Proof.Machine.execFetchDone w tag total s
  | .fetchFail w tag reason => Sys2Proof.Machine.execFetchFail w tag reason s
  | .activityExpiry i => Sys2Proof.Machine.execActivityExpiry i s
  | .stallExpiry i => Sys2Proof.Machine.execStallExpiry i s
  | .lowExpiry i => Sys2Proof.Machine.execLowExpiry i s
  | .refillExpiry i => Sys2Proof.Machine.execRefillExpiry i s
  | .windowExpiry => Sys2Proof.Machine.execWindowExpiry s
  | .frameSent => Sys2Proof.Machine.execFrameSent s
  | .characterReceived stopHigh b => Sys2Proof.Machine.execCharacterReceived stopHigh b s

end Sys2Proof.Machine
end

