-- ==== Sys2Proof/WellFormed.lean ====
section
/-! DEFINITION. Which commands can stand on the line: LEN is one byte (01 §1.2), so a payload has at most 255 bytes. -/

namespace Sys2Proof

/-- The length of an OPEN payload with a given number of bitrates (01 §1.11). -/
def OpenFields.payloadLength (o : OpenFields) : Nat := 32 + 2 * o.bitrates.length

/-- A command is well formed when its frame's payload length fits the LEN byte. Only OPEN has a payload of variable
length; every other field is bounded by its type. -/
def Instr.wellFormed : Instr → Bool
  | .pinReset => true
  | .nrstRelease _ => true
  | .rdyFirstRise => true
  | .partTimeAdvance _ => true
  | .interByteGapExpiry => true
  | .hello _ => true
  | .configure _ _ => true
  | .resetSessions _ => true
  | .resetAll _ => true
  | .grantHold _ => true
  | .grantHoldRelease _ => true
  | .queryLink _ => true
  | .history _ _ _ => true
  | .openSession _ o => o.payloadLength ≤ 255
  | .closeSession _ => true
  | .play _ => true
  | .pause _ => true
  | .seek _ _ => true
  | .limits _ _ _ _ => true
  | .playout _ _ => true
  | .edge _ _ => true
  | .querySession _ => true
  | .fetchStart _ _ _ => true
  | .fetchProgress _ _ _ => true
  | .fetchDone _ _ _ => true
  | .fetchFail _ _ _ => true
  | .activityExpiry _ => true
  | .stallExpiry _ => true
  | .lowExpiry _ => true
  | .refillExpiry _ => true
  | .windowExpiry => true
  | .frameSent => true
  | .characterReceived _ _ => true

end Sys2Proof
end

