-- ==== Sys2Proof/Safety.lean ====
section
/-! DEFINITION. The terms the claims use: when the link takes a request, what a queued reply leaves behind, what an act of
the arbiter may touch, what is due, and the invariants of the part. -/

namespace Sys2Proof.Machine

open Sys2Proof

/-! ### The control link -/

/-- The part takes a request now: NRST is high, RDY has risen, the receiver is in HUNT with no gap expiry (R4, R5), and
the reply queue has room (R6). -/
def State.linkOpen (s : State) : Prop :=
  s.nrstHigh = true ∧ s.link.rdyRisen = true ∧ s.link.framer = .hunt ∧ s.link.gap = none ∧ s.link.replies.length < 4

/-- An idle transmitter has nothing to send: no reply, and no notice either once a reply has begun (R19, R180). -/
def State.transmitterServed (s : State) : Prop :=
  s.link.tx = .idle → s.link.replies = [] ∧
    (s.link.replyBegun = true → s.link.linkNotice = false ∧ ∀ i, s.notices i = NoticeSet.empty)

/-- The part takes a request, and no choice of the transmitter is left to make. -/
def State.linkReady (s : State) : Prop := s.linkOpen ∧ s.transmitterServed

/-- A request whose frame came over a clean line (R2, R7). -/
def clean (target : Byte) : Wire := ⟨target, 0#8⟩

/-- What stands after the event whose effect left `core` and whose reply is `r`: the reply is at the tail of the queue,
the receiver is in HUNT, and an idle transmitter has begun the oldest reply, taking OVERRUN_SEEN with it (R9, R10, R12,
R19). Everything else is as `core` has it. -/
def afterReply (core : State) (r : Reply) : State :=
  { core with link := { core.link with
      framer := .hunt
      gap := none
      replies := core.link.replies ++ [r]
      tx := (match core.link.tx with
        | .idle => .reply (((core.link.replies ++ [r]).headD r).frame core.link.overrunSeen)
        | .reply f => .reply f
        | .notice f => .notice f)
      overrunSeen := (match core.link.tx with
        | .idle => false
        | .reply _ => core.link.overrunSeen
        | .notice _ => core.link.overrunSeen)
      replyBegun := (match core.link.tx with
        | .idle => true
        | .reply _ => core.link.replyBegun
        | .notice _ => core.link.replyBegun) } }

/-- The reply to a request of a kind, with nothing in STATUS0 bits 0 to 2 (R9, R10). -/
def replyTo (k : ReqKind) (target : Byte) (c : Status1) (fields : List Byte) : Reply :=
  ⟨k.code ||| 0x80#8, target, 0#8, c, fields⟩

/-- The frame a request command stands for: its kind, its wire and its payload; none for the commands that are no
requests. -/
def requestOf : Instr → Option (ReqKind × Wire × List Byte)
  | .hello w => some (.hello, w, [])
  | .configure w c => some (.configure, w, configPayload c)
  | .resetSessions w => some (.reset, w, [1#8])
  | .resetAll w => some (.reset, w, [2#8])
  | .grantHold w => some (.grantHold, w, [1#8])
  | .grantHoldRelease w => some (.grantHold, w, [0#8])
  | .queryLink w => some (.queryLink, w, [])
  | .history w start countLessOne => some (.history, w, [start, countLessOne])
  | .openSession w o => some (.openSession, w, openPayload o)
  | .closeSession w => some (.closeSession, w, [])
  | .play w => some (.play, w, [])
  | .pause w => some (.pause, w, [])
  | .seek w segment => some (.seek, w, le32 segment)
  | .limits w cap floor weight => some (.limits, w, [cap, floor, weight])
  | .playout w level => some (.playout, w, le32 level)
  | .edge w segment => some (.edge, w, le32 segment)
  | .querySession w => some (.querySession, w, [])
  | .fetchStart w tag size => some (.start, w, tag :: le32 size)
  | .fetchProgress w tag count => some (.progress, w, tag :: le32 count)
  | .fetchDone w tag total => some (.done, w, tag :: le32 total)
  | .fetchFail w tag reason => some (.fail, w, [tag, reason])
  | .pinReset => none
  | .nrstRelease _ => none
  | .rdyFirstRise => none
  | .partTimeAdvance _ => none
  | .interByteGapExpiry => none
  | .activityExpiry _ => none
  | .stallExpiry _ => none
  | .lowExpiry _ => none
  | .refillExpiry _ => none
  | .windowExpiry => none
  | .frameSent => none
  | .characterReceived _ _ => none

/-- Whether a TARGET byte is valid for a kind: the table of R8. -/
def ReqKind.validTarget (k : ReqKind) (b : Byte) : Bool :=
  match k with
  | .hello | .configure | .reset | .grantHold | .queryLink | .history => b == 0x0E#8
  | .play | .pause => decide (b.toNat ≤ 3) || b == 0x0F#8
  | .openSession | .closeSession | .seek | .limits | .playout | .edge | .querySession | .start | .progress | .done
  | .fail => decide (b.toNat ≤ 3)

/-- The place of a notice source in the fixed cyclic order device, session 0 to session 3 (R20). -/
def NoticeSource.place : NoticeSource → Nat
  | .device => 0
  | .session i => i.toNat + 1

/-- How many turns lie between the source served last and another (R20). -/
def NoticeSource.turnsTo (last src : NoticeSource) : Nat := (src.place + 4 - last.place) % 5

/-- A source has something pending and no other that has comes earlier in the cyclic order, counted from the source after
the one the rotation pointer names (R20). -/
def State.hasTurn (s : State) (src : NoticeSource) : Prop :=
  s.hasNotice src = true ∧
  ∀ other, s.hasNotice other = true → s.link.rotation.turnsTo src ≤ s.link.rotation.turnsTo other

/-! ### What is due -/

/-- No expiry is armed at the present part time, and no sample is held (R27). -/
def State.nothingFalls (s : State) : Prop :=
  s.link.gap ≠ some s.partTime ∧ s.link.rdyExpiry ≠ some s.partTime ∧ s.meter.windowExpiry ≠ some s.partTime ∧
  s.contention.held = none ∧
  ∀ i, (s.session i).stallExpiry ≠ some s.partTime ∧ (s.session i).lowExpiry ≠ some s.partTime ∧
    (s.session i).refillExpiry ≠ some s.partTime ∧
    ∀ f, (s.session i).fetch = some f → f.activityExpiry ≠ s.partTime

/-- An advance leaves nothing behind: nothing falls at the present part time, and an idle transmitter has nothing to send. -/
def State.nothingDue (s : State) : Prop := s.nothingFalls ∧ s.transmitterServed

/-- A request is a CLOSE of an open session or a RESET, over a clean line, that clears what a source has pending (R18, R47,
R178, R179). -/
def State.requestClears (s : State) (k : ReqKind) (w : Wire) (p : List Byte) (src : NoticeSource) : Prop :=
  w.sumError = 0#8 ∧
  ((k = .closeSession ∧ ∃ i, src = .session i ∧ w.target = sessionByte i ∧ (s.session i).state ≠ .closed) ∨
    (k = .reset ∧ w.target = 0x0E#8 ∧ ((p = [1#8] ∧ src ≠ .device) ∨ p = [2#8])))

/-- The events that find the choice of an idle transmitter made (R19): an advance, a held sample dealt with, an expiry of a
session or the window that is due, and a request, but for one that clears the notice whose turn it is (R174, R181). -/
def State.followsChoice (s : State) (cmd : Instr) : Prop :=
  match cmd with
  | .partTimeAdvance (.atOnce _) => True
  | .partTimeAdvance (.hold _) => True
  | .partTimeAdvance .settle => s.contention.held ≠ none
  | .activityExpiry i => ∃ f, (s.session i).fetch = some f ∧ f.activityExpiry = s.partTime
  | .stallExpiry i => (s.session i).stallExpiry = some s.partTime
  | .lowExpiry i => (s.session i).lowExpiry = some s.partTime
  | .refillExpiry i => (s.session i).refillExpiry = some s.partTime
  | .windowExpiry => s.meter.windowExpiry = some s.partTime
  | .pinReset | .nrstRelease _ | .rdyFirstRise | .interByteGapExpiry | .frameSent | .characterReceived _ _ => False
  | request => s.linkOpen ∧ request.wellFormed = true ∧
    ∀ (k : ReqKind) (w : Wire) (p : List Byte) (src : NoticeSource), requestOf request = some (k, w, p) → s.hasTurn src →
      ¬ s.requestClears k w p src

/-! ### Preemption and a DONE of the same part time -/

/-- A slot of the pool whose record, granted at `g`, qualifies for preemption, or did until a DONE of this part time ended it
(R139, R142). -/
def State.preemptible (s : State) (k : SlotId) (g : PartTime) : Prop :=
  k.toNat < s.settings.slotCount ∧
  (s.arbiter.doneGrants.get k = some g ∨
    (s.arbiter.doneGrants.get k = none ∧ ∃ (h : SlotHolder) (f : FetchRecord), s.arbiter.slots.get k = some h ∧
      h.grantTime = g ∧ s.urgent h.session = false ∧ (s.session h.session).fetch = some f ∧ f.received * 4 < f.expected))

/-- A consideration would have chosen the holder of a record that a DONE of this part time has ended: of the preemptible
slots that record's was granted last, with the higher number among equals (R140, R142). -/
def State.doneForestalls (s : State) : Prop :=
  ∃ (k : SlotId) (g : PartTime), s.arbiter.doneGrants.get k = some g ∧ s.preemptible k g ∧
    ∀ (j : SlotId) (g' : PartTime), s.preemptible j g' → j ≠ k →
      interval g s.partTime < interval g' s.partTime ∨ (interval g s.partTime = interval g' s.partTime ∧ j.toNat < k.toNat)

/-! ### What an act of the arbiter may touch -/

/-- What is known of a record that an event which began its grants at `s` has created for session `i`: R145 and R146 field by
field. Its rung is the order of R115 to R121 from a share E × w / Wsum, whose demand set is the one at the grant itself,
under the constraint in force, or under none after an earlier grant of the session in the same event. -/
def State.granted (s : State) (i : SessionId) (tag : Byte) (f : FetchRecord) : Prop :=
  let r := s.session i
  f.tag = tag ∧ f.segment = r.nextSegment ∧ f.expected = r.predictedSize f.rung ∧ f.received = 0 ∧ f.state = .ordered ∧
  f.grantTime = s.partTime ∧ f.activityExpiry = s.partTime + BitVec.ofNat 32 s.settings.activityTimeout ∧
  f.attempt = r.attempts ∧ f.retryMark = decide (0 < r.attempts) ∧ f.slot.toNat < s.settings.slotCount ∧
  ∃ (limit : Option RungLimit) (wsum : Nat), (limit = r.rungLimit ∨ limit = none) ∧
    f.replacementMark = ({ r with rungLimit := limit } : Session).limitIsExact ∧
    f.rung = ({ r with rungLimit := limit } : Session).orderRung
      (r.rungChoice (s.estimate * r.weight / wsum) (s.level i) s.settings.fit s.settings.upHoldNeeded)

/-- All that granting and preempting may change: of each session its record, tag counter and constraint; of each pending
set ORDER and CANCEL; the ACTIVE count and the stored busy; the slots and the queue (R133, R140, R145, R157). A constraint
is kept or cleared (R121), and a record is kept or is a new one (R145). ORDER and CANCEL follow the record: kept as they
were; ORDER raised and CANCEL removed by a grant (R16); or, without a record, ORDER not pending and CANCEL kept, removed,
or raised by a preemption with the old record's tag (R17, R140). -/
structure ArbiterOnly (s t : State) : Prop where
  nrstHigh : t.nrstHigh = s.nrstHigh
  partTime : t.partTime = s.partTime
  contention : t.contention = s.contention
  settings : t.settings = s.settings
  pending : t.pending = s.pending
  hold : t.arbiter.hold = s.arbiter.hold
  doneGrants : t.arbiter.doneGrants = s.arbiter.doneGrants
  meter : t.meter = { s.meter with activeCount := t.meter.activeCount, busyStored := t.meter.busyStored }
  link : t.link = { s.link with notices := t.link.notices }
  notices : ∀ i, t.notices i = { s.notices i with order := (t.notices i).order, cancel := (t.notices i).cancel }
  session : ∀ i, t.session i = { s.session i with
    fetch := (t.session i).fetch, tagCounter := (t.session i).tagCounter, rungLimit := (t.session i).rungLimit }
  limit : ∀ i, (t.session i).rungLimit = (s.session i).rungLimit ∨ (t.session i).rungLimit = none
  record : ∀ i f, (t.session i).fetch = some f →
    ((s.session i).fetch = some f ∧ (t.session i).tagCounter = (s.session i).tagCounter) ∨
    s.granted i (t.session i).tagCounter f
  notice : ∀ i,
    ((t.session i).fetch = (s.session i).fetch ∧ t.notices i = s.notices i) ∨
    ((t.session i).fetch ≠ none ∧ (t.notices i).order = true ∧ (t.notices i).cancel = none) ∨
    ((t.session i).fetch = none ∧ (t.notices i).order = false ∧
      ((t.notices i).cancel = none ∨ (t.notices i).cancel = (s.notices i).cancel ∨
        ∃ f, (s.session i).fetch = some f ∧ (s.notices i).order = false ∧ (s.notices i).cancel = none ∧
          (t.notices i).cancel = some ⟨f.tag, .preempt⟩))

/-- What stands when the arbiter has been handed session `i` at the end of an event's own changes, which left `u`: the
re-examination of R130 with the grants and the consideration of preemption it occasions, and nothing beside what the
arbiter may touch. `wasUrgent` is the session's urgency before the event, and `freed` whether the event freed a slot. -/
def State.handedOver (u : State) (i : SessionId) (wasUrgent freed : Bool) (core : State) : Prop :=
  core = u.reexamine i wasUrgent freed ∧ ArbiterOnly u core

/-! ### What the claims say of one session -/

/-- The defects for which OPEN is refused with BAD_FIELD: the conditions of R43. -/
def openDefect (o : OpenFields) : Prop :=
  o.bitrates.length = 0 ∨ 8 < o.bitrates.length ∨ (∃ b ∈ o.bitrates, b.toNat < 32 ∨ 60000 < b.toNat) ∨
  (∃ (k : Nat) (lo hi : BitVec 16), o.bitrates[k]? = some lo ∧ o.bitrates[k + 1]? = some hi ∧ hi.toNat ≤ lo.toNat) ∨
  1 < o.mode.toNat ∨ (o.mode.toNat = 0 ∧ o.lastSegment.toNat = 0xFFFFFFFF) ∨
  (o.mode.toNat = 1 ∧ o.lastSegment.toNat ≠ 0xFFFFFFFF) ∨
  (o.mode.toNat = 0 ∧ o.lastSegment.toNat < o.firstSegment.toNat)

/-- The record that an OPEN writes: the table of R45 with the clamps of R44. -/
def openedRecord (o : OpenFields) (now : PartTime) : Session :=
  let d := max 500 (min 10000 o.segmentMs.toNat)
  let c := min (o.bitrates.length - 1) o.cap.toNat
  let f := min c o.floor.toNat
  let l := min 60000 o.markL.toNat
  let t := max (l + d) (min 120000 o.markT.toNat)
  let h := max t (min 120000 o.markH.toNat)
  { state := .priming
    live := decide (o.mode.toNat = 1)
    ladder := o.bitrates.map fun b => ⟨b.toNat, 256, false⟩
    segmentMs := d
    nextSegment := o.firstSegment.toNat
    lastSegment := if o.lastSegment.toNat = 0xFFFFFFFF then none else some o.lastSegment.toNat
    liveEdge := o.firstSegment.toNat
    weight := max 1 (min 15 o.weight.toNat)
    cap := c
    floor := f
    markL := l
    markT := t
    markH := h
    markS0 := max d (min h o.markS0.toNat)
    storedLevel := 0
    refTime := now
    stallExpiry := none
    lowExpiry := none
    refillExpiry := none
    stallCount := 0
    autostart := false
    allFetched := false
    activeRung := max f (min c o.startRung.toNat)
    upHold := 0
    rungLimit := none
    skipFirst := 0
    skipCount := 0
    tagCounter := 0#8
    attempts := 0
    fetch := none }

/-- The reply to an OPEN that is taken: CLAMPED when any of the nine values in force differs from the value carried, and the
nine values (R44). -/
def openReply (i : SessionId) (o : OpenFields) : Reply :=
  let r := openedRecord o 0#32
  let same := r.segmentMs = o.segmentMs.toNat ∧ r.weight = o.weight.toNat ∧ r.cap = o.cap.toNat ∧ r.floor = o.floor.toNat ∧
    r.activeRung = o.startRung.toNat ∧ r.markL = o.markL.toNat ∧ r.markT = o.markT.toNat ∧ r.markH = o.markH.toNat ∧
    r.markS0 = o.markS0.toNat
  replyTo .openSession (sessionByte i) (if same then .ok else .clamped)
    (put16 r.segmentMs ++ put8 r.weight ++ put8 r.cap ++ put8 r.floor ++ put8 r.activeRung ++ put32 r.markL ++
      put32 r.markT ++ put32 r.markH ++ put32 r.markS0)

/-- The record after a change of state with the level in force written and the expiries rearmed (R61, R65). -/
def Session.movedTo (r : Session) (now : PartTime) (st : SessionState) : Session :=
  ({ r with storedLevel := r.level now, refTime := now, state := st } : Session).rearm

/-- The state with one session's record replaced. -/
def State.withSession (s : State) (i : SessionId) (r : Session) : State := { s with sessions := s.sessions.set i r }

/-- A stall taken at level 0: STALLED with the count raised to at most 255 and the expiries clear (R66, R72). -/
def Session.stalledAtZero (r : Session) (now : PartTime) : Session :=
  ({ r with storedLevel := 0, refTime := now, state := .stalled, stallCount := min 255 (r.stallCount + 1) } : Session).rearm

/-- STALL raised with a part time, unless it is pending already (R14). -/
def NoticeSet.withStall (n : NoticeSet) (now : PartTime) : NoticeSet :=
  { n with stall := (match n.stall with
    | some earlier => some earlier
    | none => some now) }

/-- The state with a session's stall taken at level 0, and STALL raised (R66, R72). -/
def State.stalledAtZero (s : State) (i : SessionId) : State :=
  { s with
    sessions := s.sessions.set i ((s.session i).stalledAtZero s.partTime)
    link := { s.link with notices := s.link.notices.set i ((s.notices i).withStall s.partTime) } }

/-- PLAY begins PLAYING at level 0 with segments still to come, so that the session stalls at once (R72, R73). -/
def Session.stallsOnPlay (r : Session) : Bool :=
  (r.state == .primed || r.state == .paused) && r.storedLevel == 0 && !r.allFetched

/-- The record as PLAY leaves it, before the arbiter acts (R72, R73). -/
def Session.afterPlay (r : Session) (now : PartTime) : Session :=
  match r.state with
  | .priming => { r with autostart := true }
  | .primed | .paused =>
    if r.stallsOnPlay then r.stalledAtZero now else r.movedTo now (if r.storedLevel = 0 then .ended else .playing)
  | .closed | .playing | .stalled | .ended | .fault => r

/-- The record as PAUSE leaves it, before the arbiter acts (R73). -/
def Session.afterPause (r : Session) (now : PartTime) : Session :=
  match r.state with
  | .priming => { r with autostart := false }
  | .playing | .stalled => r.movedTo now .paused
  | .closed | .primed | .paused | .ended | .fault => r

/-- PLAY of one session as addressed to it alone: the record, STALL when it stalls at once, and the arbiter where the state
changed (R73). -/
def State.playedAlone (s : State) (i : SessionId) : State :=
  let r := s.session i
  if r.stallsOnPlay then (s.stalledAtZero i).reexamine i (s.toldUrgent i) false
  else if r.state = .primed ∨ r.state = .paused then
    (s.withSession i (r.afterPlay s.partTime)).reexamine i (s.toldUrgent i) false
  else s.withSession i (r.afterPlay s.partTime)

/-- PAUSE of one session as addressed to it alone (R73). -/
def State.pausedAlone (s : State) (i : SessionId) : State :=
  let r := s.session i
  if r.state = .playing ∨ r.state = .stalled then
    (s.withSession i (r.afterPause s.partTime)).reexamine i (s.toldUrgent i) false
  else s.withSession i (r.afterPause s.partTime)

/-- What an ending leaves of a pending set: a pending ORDER is withdrawn and then no CANCEL is raised, else the CANCEL of the
ending, if it has one, is raised with the record's tag unless one is pending (R14, R17, R158). -/
def NoticeSet.afterEnding (n : NoticeSet) (tag : Byte) (why : Option CancelReason) : NoticeSet :=
  if n.order then { n with order := false }
  else { n with cancel := n.cancel.orElse fun _ => why.map fun reason => ⟨tag, reason⟩ }

/-- Steps 1 to 3 of an abandonment of session `i`'s fetch for rung `k` (R170): the ending path with reason ABANDON, the
up-hold count 0 and the constraint EXACT. -/
def State.abandonedTo (s : State) (i : SessionId) (k : Nat) : State :=
  let e := s.endRecord i (some .abandon)
  e.withSession i { e.session i with upHold := 0, rungLimit := some (.exact k) }

/-- Whether a session takes a PLAY or PAUSE: it is open and neither ENDED nor FAULT (R21, R73). -/
def Session.takesControl (r : Session) : Bool := !(r.state == .closed || r.state == .ended || r.state == .fault)

/-- The mask of a broadcast reply: bit i for each session that took the request (R21). -/
def State.controlMask (s : State) : Byte :=
  BitVec.ofNat 8 ((if Session.takesControl (s.session .i0) then 1 else 0) +
    (if Session.takesControl (s.session .i1) then 2 else 0) +
    (if Session.takesControl (s.session .i2) then 4 else 0) + (if Session.takesControl (s.session .i3) then 8 else 0))

/-- The busy reckoning when one more record becomes ACTIVE (R87). -/
def LinkMeter.oneMoreActive (m : LinkMeter) (now : PartTime) : LinkMeter :=
  { m with activeCount := m.activeCount + 1, busyRef := if m.activeCount = 0 then now else m.busyRef }

/-- The meter when a PROGRESS or its promotion of an ORDERED record has been taken (R87, R150). -/
def activeMeter (f : FetchRecord) (m : LinkMeter) (now : PartTime) : LinkMeter :=
  if f.state = .ordered then LinkMeter.oneMoreActive m now else m

/-- The session as failure handling of its ended record `f` leaves it: retried below the retry limit with the next order held
to one rung lower; else, live, skipped to the next segment with the SKIP fields counting it; else, on-demand, in FAULT with
the level kept, the expiries clear and no entry in the grant queue (R159 to R163). -/
def State.afterFailure (s : State) (i : SessionId) (f : FetchRecord) : State :=
  let r := s.session i
  if r.attempts < s.settings.retryLimit then
    State.withSession s i { r with
      fetch := none, attempts := r.attempts + 1, rungLimit := some (.atMost (max (f.rung - 1) r.floor)) }
  else if r.live then
    { State.withSession s i { r with
        fetch := none, nextSegment := f.segment + 1, attempts := 0
        skipFirst := if r.skipCount = 0 then f.segment else r.skipFirst
        skipCount := min (r.skipCount + 1) 255 } with
      link := { s.link with notices := s.link.notices.set i { s.notices i with skip := true } } }
  else
    { State.withSession s i { r with
        fetch := none, state := .fault, storedLevel := s.level i
        refTime := if r.state = .playing then s.partTime else r.refTime
        stallExpiry := none, lowExpiry := none, refillExpiry := none } with
      arbiter := { s.arbiter with queue := s.arbiter.queue.filter fun e => e.session != i }
      link := { s.link with notices := s.link.notices.set i { s.notices i with fault := true } } }

/-- A state predicate that every step keeps. -/
def keptByStep (inv : State → Prop) : Prop := ∀ s t : State, inv s → step s = .next t → inv t

/-! ### Invariants -/

/-- The reply queue never holds more than 4 frames (R12). -/
def RepliesFit (s : State) : Prop := s.link.replies.length ≤ 4

/-- While NRST is low every piece of state is at its pin-reset value (R180). -/
def HeldWhileLow (s : State) : Prop := s.nrstHigh = false → s = { State.reset with pending := s.pending }

/-- Sessions wait or fetch, never both; a CLOSED, ENDED or FAULT session does neither; a session whose programme is all
fetched does neither and has no segment left; the queue holds each session once (R56, R82, R131). -/
structure WaitsOrFetches (s : State) : Prop where
  queuedNoFetch : ∀ i, s.isQueued i = true → (s.session i).fetch = none
  restNoFetch : ∀ i, (s.session i).state = .closed ∨ (s.session i).state = .ended ∨ (s.session i).state = .fault →
    (s.session i).fetch = none ∧ s.isQueued i = false
  allFetchedDone : ∀ i, (s.session i).allFetched = true →
    (s.session i).fetch = none ∧ s.isQueued i = false ∧ (s.session i).live = false ∧
    ∃ l, (s.session i).lastSegment = some l ∧ (s.session i).nextSegment = l + 1
  queueNodup : (s.arbiter.queue.map (·.session)).Nodup

/-- A slot is held exactly while a fetch record occupies it, the two name each other with one grant time, and no place
outside the pool of K slots is held (R127, R143). -/
structure SlotsMatch (s : State) : Prop where
  ofRecord : ∀ i f, (s.session i).fetch = some f → s.arbiter.slots.get f.slot = some ⟨i, f.grantTime⟩
  ofSlot : ∀ k h, s.arbiter.slots.get k = some h → ∃ f, (s.session h.session).fetch = some f ∧ f.slot = k
  inPool : ∀ k, s.settings.slotCount ≤ k.toNat → s.arbiter.slots.get k = none

/-- Waiting, fetching and the slot pool agree (R56, R127, R131). -/
def SlotsConsistent (s : State) : Prop := WaitsOrFetches s ∧ SlotsMatch s

/-- Whether a session holds an ACTIVE record. -/
def Session.fetchActive (r : Session) : Bool := r.fetch.elim false fun f => f.state == .active

/-- The Link Meter's count is the number of ACTIVE records over all sessions (R87). -/
def ActiveCountMatches (s : State) : Prop := s.meter.activeCount = Idx4.all.countP fun i => (s.session i).fetchActive

/-- A record's tag equals the tag counter and its segment the next segment for as long as it exists (R143, R144). -/
def RecordMatchesSession (s : State) : Prop :=
  ∀ i f, (s.session i).fetch = some f → f.tag = (s.session i).tagCounter ∧ f.segment = (s.session i).nextSegment

/-- The level expiries stand as R62 to R64 give them; the low and refill expiries may have fallen since. -/
def ExpiriesMatch (s : State) : Prop :=
  ∀ i, (s.session i).stallExpiry = (s.session i).stallDue ∧
    ((s.session i).lowExpiry = none ∨ (s.session i).lowExpiry = (s.session i).lowDue) ∧
    ((s.session i).refillExpiry = none ∨ (s.session i).refillExpiry = (s.session i).refillDue)

/-- The expiries of a PLAYING session have not been passed: the level is the stored level less the time gone by, which is not
beyond it; an armed low or refill expiry has not been passed, and a clear one that would be armed has fallen: the level is
below L, or a further segment fits below H (R27, R62 to R64, R67, R68). -/
def ExpiriesInTime (s : State) : Prop :=
  ∀ i, (s.session i).state = .playing →
    let r := s.session i
    0 < r.storedLevel ∧ interval r.refTime s.partTime ≤ r.storedLevel ∧
    (r.lowExpiry ≠ none → r.markL ≤ s.level i + 1) ∧
    (r.lowExpiry = none → r.lowDue = none ∨ s.level i < r.markL) ∧
    (r.refillExpiry ≠ none → r.markH - r.segmentMs ≤ s.level i) ∧
    (r.refillExpiry = none → r.refillDue = none ∨ s.level i ≤ r.markH - r.segmentMs)

/-- A session waits in the queue exactly while it wants a fetch, but for a refill expiry that is due and has not been taken
(R129, R130, R131). -/
def QueueIsWanting (s : State) : Prop :=
  ∀ i, (s.isQueued i = true → s.wants i = true) ∧
    (s.wants i = true → s.isQueued i = true ∨ (s.session i).refillExpiry = some s.partTime)

/-- Each ratio q lies within 64..1023 at every moment (R105). -/
def RatiosInRange (s : State) : Prop := ∀ i, ∀ e ∈ (s.session i).ladder, 64 ≤ e.ratio ∧ e.ratio ≤ 1023

/-- An open session's fields lie in the ranges that OPEN and LIMITS establish (R39, R41, R44, R51). -/
def Session.inOrder (r : Session) : Prop :=
  1 ≤ r.ladder.length ∧ r.ladder.length ≤ 8 ∧ (∀ e ∈ r.ladder, 32 ≤ e.bitrate ∧ e.bitrate ≤ 60000) ∧
  ascending (r.ladder.map (·.bitrate)) = true ∧ 500 ≤ r.segmentMs ∧ r.segmentMs ≤ 10000 ∧ 1 ≤ r.weight ∧ r.weight ≤ 15 ∧
  r.floor ≤ r.cap ∧ r.cap ≤ r.ladder.length - 1 ∧ r.markL ≤ 60000 ∧ r.markL + r.segmentMs ≤ r.markT ∧
  r.markT ≤ r.markH ∧ r.markH ≤ 120000 ∧ r.segmentMs ≤ r.markS0 ∧ r.markS0 ≤ r.markH

/-- Every open session is in order (R39, R41). -/
def OpenInOrder (s : State) : Prop := ∀ i, (s.session i).isOpen = true → (s.session i).inOrder

/-- The settings lie in the ranges of 11 §11.1. -/
def Settings.inRange (c : Settings) : Prop :=
  1 ≤ c.slotCount ∧ c.slotCount ≤ 4 ∧ 100 ≤ c.window ∧ c.window ≤ 2000 ∧ 1 ≤ c.fastShift ∧ c.fastShift ≤ 4 ∧
  c.fastShift + 1 ≤ c.slowShift ∧ c.slowShift ≤ 6 ∧
  (∀ k : Code, k ≠ 7#3 → 32 ≤ c.margins.at k ∧ c.margins.at k ≤ 256) ∧
  64 ≤ c.opening ∧ c.opening ≤ 1000000 ∧ 128 ≤ c.fit ∧ c.fit ≤ 256 ∧ 500 ≤ c.activityTimeout ∧
  c.activityTimeout ≤ 30000 ∧ c.retryLimit ≤ 7 ∧ 1 ≤ c.upHoldNeeded ∧ c.upHoldNeeded ≤ 8

/-- The counts and levels of every session and of the meter stay in their ranges (R60, R66, R85, R90, R93, R125, R159,
R162, 11 §11.1). -/
structure CountsInRange (s : State) : Prop where
  settings : s.settings.inRange
  level : ∀ i, (s.session i).storedLevel ≤ 120000
  stallCount : ∀ i, (s.session i).stallCount ≤ 255
  upHold : ∀ i, (s.session i).upHold ≤ 15
  attempts : ∀ i, (s.session i).attempts ≤ 7
  skipCount : ∀ i, (s.session i).skipCount ≤ 255
  age : s.meter.age ≤ 7
  ring : s.meter.ring.length ≤ 12
  fast : s.meter.fast ≤ 1000000
  slow : s.meter.slow ≤ 1000000

/-- At the end of every event no slot is free, or the queue is empty, or the hold is in force, or the code is 7
(R135). -/
def NothingToGrant (s : State) : Prop :=
  s.freeSlot = none ∨ s.arbiter.queue = [] ∨ s.arbiter.hold = true ∨ s.contention.accepted = 7#3

/-- No reply waits for an idle transmitter, nothing is in transmission until a first reply has begun, and a reply in
transmission is the frame of the reply at the queue's head (R10, R12, R19, R180). -/
def TransmitterServes (s : State) : Prop :=
  (s.link.tx = .idle → s.link.replies = []) ∧ (s.link.replyBegun = false → s.link.tx = .idle) ∧
  ∀ f, s.link.tx = .reply f → ∃ (r : Reply) (rest : List Reply) (overrun : Bool),
    s.link.replies = r :: rest ∧ f = r.frame overrun

/-- A gap expiry is armed exactly while a frame is being received (R4, R5). -/
def GapMatchesFramer (s : State) : Prop := s.link.gap = none ↔ s.link.framer = .hunt

end Sys2Proof.Machine
end

