-- ==== Sys2Proof/Certificates/Slice0/Obligations.lean ====
section
/-! DEFINITION. The statements about the VA24 that the provers settle, in the order of OBLIGATIONS.json. -/

section Statements

open Sys2Proof Sys2Proof.Machine

/-! ### The queue of commands, the pins and the time base -/

/-- A step runs the command at the front of the queue on the state with the queue's rest, and an empty queue idles; every
command answers a next state with the queue as it found it (the queue is the model's own, log 2). -/
def Obligations.StepRunsFrontElseIdles : Prop :=
  (∀ (cmd : Instr) (rest : List Instr) (s : State), s.pending = cmd :: rest →
    step s = exec cmd { s with pending := rest }) ∧
  (∀ s : State, s.pending = [] → step s = .next s) ∧
  (∀ (cmd : Instr) (s : State), ∃ t, exec cmd s = .next t ∧ t.pending = s.pending)

/-- PIN_RESET leaves every piece of state at its pin-reset value, from any state (R180, R36, 11 §11.1). The values of the
line rate, of the window's length and of the busy reference time while NRST is low are the model's (logs 8 and 9) and are
not claimed. -/
def Obligations.PinResetHoldsResetValues : Prop :=
  ∀ s : State, ∃ t, exec .pinReset s = .next t ∧ t.nrstHigh = false ∧ t.partTime = 0#32 ∧
    t.contention.accepted = 0#3 ∧ t.contention.lastSample = none ∧ (∀ i, t.session i = Session.blank) ∧
    t.arbiter.queue = [] ∧ (∀ k, t.arbiter.slots.get k = none) ∧ t.arbiter.hold = false ∧
    (∀ k, t.arbiter.doneGrants.get k = none) ∧ t.meter.empty = true ∧ t.meter.fast = 0 ∧ t.meter.slow = 0 ∧ t.meter.ring = [] ∧ t.meter.bytes = 0 ∧
    t.meter.busyAt t.partTime = 0 ∧ t.meter.age = 0 ∧ t.meter.activeCount = 0 ∧ t.meter.windowExpiry = none ∧
    t.settings = ⟨2, 250, 1, 3, ⟨240, 224, 208, 192, 168, 144, 112⟩, 3000, 224, 4000, 2, 2, true, true⟩ ∧
    t.link.replies = [] ∧ (∀ i, t.notices i = NoticeSet.empty) ∧ t.link.linkNotice = false ∧ t.link.overrunSeen = false ∧
    t.link.rotation = .session .i3 ∧ t.link.replyBegun = false ∧ t.link.framer = .hunt ∧ t.link.gap = none ∧ t.link.rdyExpiry = none ∧
    t.rdy = false ∧ t.txdIdle = true ∧ t.pending = s.pending

/-- NRST_RELEASE with NRST low starts the part: line rate from BAUD, part time 0, window expiry at 250, RDY expiry at 2, all
else at its pin-reset value (R1, R25, R83, R180); the busy reference time is the model's (log 9). With NRST high it changes
nothing (R1: BAUD has no effect; log 4). -/
def Obligations.NrstReleaseStartsPart : Prop :=
  ∀ (baudHigh : Bool) (s : State),
    (s.nrstHigh = false → exec (.nrstRelease baudHigh) s = .next { State.reset with
      nrstHigh := true
      partTime := 0#32
      link := { ControlLink.reset with
        lineRate := (if baudHigh then .baud3000000 else .baud921600), rdyExpiry := some 2#32 }
      meter := { LinkMeter.reset with windowExpiry := some 250#32, windowLength := 250 }
      pending := s.pending }) ∧
    (s.nrstHigh = true → exec (.nrstRelease baudHigh) s = .next s)

/-- RDY_FIRST_RISE, when the RDY expiry is due, makes RDY rise; from then on it is high while the reply queue holds 0, 1 or
2 replies. Nothing else changes (R13, R180). -/
def Obligations.RdyRisesAtItsExpiry : Prop :=
  ∀ s : State, s.nrstHigh = true → s.link.rdyExpiry = some s.partTime →
    ∃ t, exec .rdyFirstRise s = .next t ∧
      t = { s with link := { s.link with rdyExpiry := none, rdyRisen := true } } ∧
      (t.rdy = true ↔ t.link.replies.length ≤ 2)

/-- While NRST is low no event is taken: every command but PIN_RESET and NRST_RELEASE leaves the part as it was (R180). -/
def Obligations.NoEventWhileNrstLow : Prop :=
  ∀ (cmd : Instr) (s : State), s.nrstHigh = false → cmd ≠ .pinReset → (∀ b, cmd ≠ .nrstRelease b) →
    exec cmd s = .next s

/-- Until RDY has first risen, bytes arriving on RXD are ignored: single characters and whole request frames (R5). -/
def Obligations.BytesIgnoredBeforeRdy : Prop :=
  ∀ s : State, s.link.rdyRisen = false →
    (∀ (stop : Bool) (b : Byte), exec (.characterReceived stop b) s = .next s) ∧
    ∀ (cmd : Instr) (k : ReqKind) (w : Wire) (p : List Byte), requestOf cmd = some (k, w, p) → exec cmd s = .next s

/-- PART_TIME_ADVANCE, with nothing due left behind, adds 1 to part time modulo 2^32 and deals with the sample read as the
table of R29: it becomes the last sample, and it is accepted when it equals the last one and differs from the accepted code,
with LINK raised and, when the old code was 7, the arbiter's grants and then its considerations of preemption, which leave
nothing it could still grant (R25, R28, R29, R31, R137, R138). An idle transmitter with something to send has made its choice
before part time advances: the advance is then that of the state which FRAME_SENT leaves (R19; the model's form, log 23). The
model's own note of the DONEs of a part time is cleared (log 24). -/
def Obligations.AdvanceDealsWithSample : Prop :=
  (∀ (cc : CcLines) (s : State), s.nrstHigh = true → s.nothingFalls → s.link.tx = .idle →
    ∃ u, exec .frameSent s = .next u ∧ u.nothingDue ∧
      exec (.partTimeAdvance (.atOnce cc)) s = exec (.partTimeAdvance (.atOnce cc)) u) ∧
  ∀ (cc : CcLines) (s : State), s.nrstHigh = true → s.nothingDue →
    let code := lineCode cc
    let u := { s with
      partTime := s.partTime + 1#32
      arbiter := { s.arbiter with doneGrants := Four.const none } }
    code.toNat = 4 * cc.cc2.toNat + 2 * cc.cc1.toNat + cc.cc0.toNat ∧
    (s.contention.lastSample ≠ some code →
      exec (.partTimeAdvance (.atOnce cc)) s = .next { u with contention := { s.contention with lastSample := some code } }) ∧
    (s.contention.lastSample = some code → s.contention.accepted = code →
      exec (.partTimeAdvance (.atOnce cc)) s = .next u) ∧
    (s.contention.lastSample = some code → s.contention.accepted ≠ code →
      let v := { u with contention := { s.contention with accepted := code }, link := { s.link with linkNotice := true } }
      ∃ core, ArbiterOnly v core ∧ (s.contention.accepted ≠ 7#3 → core = v) ∧
        (s.contention.accepted = 7#3 → core = v.grantAll.considerAll ∧ NothingToGrant core) ∧
        exec (.partTimeAdvance (.atOnce cc)) s = .next core)

/-- The two-part form of the advance: the sample read is held, and settling it later at the same part time has the effect
that dealing with it at once would have had (R33; the held sample is the model's own, log 6). -/
def Obligations.HeldSampleSettlesAlike : Prop :=
  ∀ (cc : CcLines) (s : State), s.nrstHigh = true → s.nothingDue →
    ∃ u, u = { s with
        partTime := s.partTime + 1#32
        arbiter := { s.arbiter with doneGrants := Four.const none }
        contention := { s.contention with held := some (lineCode cc) } } ∧
      exec (.partTimeAdvance (.hold cc)) s = .next u ∧
      exec (.partTimeAdvance .settle) u = exec (.partTimeAdvance (.atOnce cc)) s

/-! ### The control link -/

/-- CHARACTER_RECEIVED: a character whose stop bit is low is dropped; any other is taken as the receiver's state says, and a
byte of a frame sets the gap expiry 11 ms on (R1, R3, R4). -/
def Obligations.ReceiverTakesByte : Prop :=
  ∀ (b : Byte) (s : State), s.nrstHigh = true → s.link.rdyRisen = true →
    let moved := fun (f : Framer) => Host.Outcome.next (φ := Fault) (ρ := Refusal)
      { s with link := { s.link with framer := f, gap := some (s.partTime + 11#32) } }
    exec (.characterReceived false b) s = .next s ∧
    (s.link.framer = .hunt → b ≠ 0xC3#8 → exec (.characterReceived true b) s = .next s) ∧
    (s.link.framer = .hunt → b = 0xC3#8 → exec (.characterReceived true b) s = moved .kind) ∧
    (s.link.framer = .kind → exec (.characterReceived true b) s = moved (.target b)) ∧
    (∀ k, s.link.framer = .target k → exec (.characterReceived true b) s = moved (.len k b)) ∧
    (∀ k t, s.link.framer = .len k t → exec (.characterReceived true b) s =
      moved (if b = 0#8 then .sum k t b [] else .payload k t b [])) ∧
    (∀ k t l p, s.link.framer = .payload k t l p → exec (.characterReceived true b) s =
      moved (if (p ++ [b]).length < l.toNat then .payload k t l (p ++ [b]) else .sum k t l (p ++ [b])))

/-- A frame complete at its SUM byte: with four replies queued it is discarded whole with OVERRUN_SEEN set; else its faults
are looked for in the order SUM_BAD, KIND_UNKNOWN, LEN_BAD, and the first one found is answered by a status-only reply and
nothing else, where no choice is left to an idle transmitter. A frame that a request command stands for has that command's effect. RESET with a scope other than 1 and 2 and
GRANT_HOLD with a value other than 0 and 1, which no command stands for, are refused with BAD_FIELD and change nothing
(R3, R6, R7, R9, R136, R178; a command as its whole frame is log 3; that LEN_BAD takes in an OPEN with a LEN above 240 is the
model's choice, log 21). -/
def Obligations.CompleteFrameChecks : Prop :=
  ∀ (b k t l : Byte) (p : List Byte) (s : State), s.nrstHigh = true → s.link.rdyRisen = true →
    s.link.framer = .sum k t l p →
    let sum := k + t + l + p.foldl (· + ·) 0#8
    let refused := fun (bit : Byte) => Host.Outcome.next (φ := Fault) (ρ := Refusal)
      (afterReply s ⟨k ||| 0x80#8, t, bit, .notExecuted, []⟩)
    (4 ≤ s.link.replies.length → s.link.tx ≠ .idle → exec (.characterReceived true b) s =
      .next { s with link := { s.link with framer := .hunt, gap := none, overrunSeen := true } }) ∧
    (s.transmitterServed → s.link.replies.length < 4 → b ≠ sum → exec (.characterReceived true b) s = refused 0x01#8) ∧
    (s.transmitterServed → s.link.replies.length < 4 → b = sum → (∀ q : ReqKind, q.code ≠ k) →
      exec (.characterReceived true b) s = refused 0x04#8) ∧
    (∀ q : ReqKind, s.transmitterServed → s.link.replies.length < 4 → b = sum → q.code = k → q.requiredLength p ≠ some l.toNat →
      exec (.characterReceived true b) s = refused 0x02#8) ∧
    (∀ (cmd : Instr) (q : ReqKind) (w : Wire), requestOf cmd = some (q, w, p) → q.code = k → w.target = t →
      l.toNat = p.length → b = sum + w.sumError →
      exec (.characterReceived true b) s = exec cmd { s with link := { s.link with framer := .hunt, gap := none } }) ∧
    (∀ x : Byte, s.transmitterServed → s.link.replies.length < 4 → b = sum → t = 0x0E#8 → l = 1#8 → p = [x] →
      (k = ReqKind.reset.code → x ≠ 1#8 → x ≠ 2#8 → exec (.characterReceived true b) s =
        .next (afterReply s (replyTo .reset 0x0E#8 .badField []))) ∧
      (k = ReqKind.grantHold.code → x ≠ 0#8 → x ≠ 1#8 → exec (.characterReceived true b) s =
        .next (afterReply s (replyTo .grantHold 0x0E#8 .badField []))))

/-- A request command at a part that is ready for it: with its checksum damaged it is answered NOT_EXECUTED with SUM_BAD;
undamaged, with a target that the table of R8 does not give its kind, BAD_TARGET; with an OPEN whose rung count is not the
number of its bitrates, or whose LEN is above 240, NOT_EXECUTED with LEN_BAD; and nothing else changes (R3, R7, R8, R23; that
R3 rules a LEN above 240 is log 21). -/
def Obligations.RefusedFramesChangeNothing : Prop :=
  ∀ (cmd : Instr) (k : ReqKind) (w : Wire) (p : List Byte) (s : State), requestOf cmd = some (k, w, p) →
    cmd.wellFormed = true → s.linkReady →
    (w.sumError ≠ 0#8 →
      exec cmd s = .next (afterReply s ⟨k.code ||| 0x80#8, w.target, 0x01#8, .notExecuted, []⟩)) ∧
    (w.sumError = 0#8 → k.requiredLength p = some p.length → k.validTarget w.target = false →
      exec cmd s = .next (afterReply s (replyTo k w.target .badTarget []))) ∧
    (w.sumError = 0#8 → ∀ o, cmd = .openSession w o →
      o.rungCount.toNat ≠ o.bitrates.length ∨ 240 < 32 + 2 * o.bitrates.length →
      exec cmd s = .next (afterReply s ⟨0x90#8, w.target, 0x02#8, .notExecuted, []⟩))

/-- FRAME_SENT at the end of a reply: it leaves the queue from its head, and the oldest reply left begins transmission with
bit 3 of STATUS0 filled in from OVERRUN_SEEN, which is cleared. At the end of a notice the queue keeps its replies
(R10, R12, R19). -/
def Obligations.FrameSentTakesOldestReply : Prop :=
  ∀ (f : List Byte) (r first : Reply) (rest : List Reply) (s : State), s.nrstHigh = true →
    let begun := fun (waiting : List Reply) => Host.Outcome.next (φ := Fault) (ρ := Refusal)
      { s with link := { s.link with
        replies := waiting
        overrunSeen := false
        replyBegun := true
        tx := .reply (frameBytes first.kind first.target
          ((first.status0 ||| (if s.link.overrunSeen then 0x08#8 else 0x00#8)) :: first.status1.code :: first.fields) 0#8) } }
    (s.link.tx = .reply f → s.link.replies = r :: first :: rest → exec .frameSent s = begun (first :: rest)) ∧
    (s.link.tx = .notice f → s.link.replies = first :: rest → exec .frameSent s = begun (first :: rest))

/-- FRAME_SENT with no reply left sends one notice, at the end of a frame or from idle alike: the turn goes round the five
sources from the one after the rotation pointer, from a session's set the first kind in the order CANCEL, ORDER, SKIP, STALL,
READY, FAULT is taken out, its payload is built from the state as it stands, and the pointer names the source. With nothing
pending the transmitter becomes idle (R12, R15, R19, R20, R147, R162). Before a first reply has begun no notice is sent (R180;
that R180 holds a LINK back which R19 and R30 alone would send is log 22). An event that comes after another finds the choice
of an idle transmitter made: it acts as on the state that FRAME_SENT leaves, but for a CLOSE or RESET that clears the very
notice (R19, R174, R181; the model's form, log 23). -/
def Obligations.FrameSentSendsNotice : Prop :=
  (∀ (f : List Byte) (s : State), s.nrstHigh = true →
      ((s.link.tx = .notice f ∧ s.link.replies = []) ∨ (s.link.tx = .reply f ∧ s.link.replies.length = 1) ∨
        (s.link.tx = .idle ∧ s.link.replies = [])) →
      let still := { s with link := { s.link with replies := [], tx := .idle } }
      exec .frameSent s = exec .frameSent still ∧
      (s.link.replyBegun = false ∨ (∀ src, s.hasNotice src = false) → exec .frameSent s = .next still) ∧
      (s.link.replyBegun = true →
        let sent := fun (link : ControlLink) (src : NoticeSource) (kind target : Byte) (payload : List Byte) =>
          { link with replies := [], rotation := src, tx := .notice (frameBytes kind target payload 0#8) }
        (s.hasTurn .device → exec .frameSent s = .next { s with
          link := sent { s.link with linkNotice := false } .device 0x4F#8 0x0E#8
            (put8 s.contention.accepted.toNat ++ put32 s.estimate ++ put32 (if s.meter.empty then 0 else s.meter.fast) ++
              put32 (if s.meter.empty then 0 else s.meter.slow)) }) ∧
        ∀ i, s.hasTurn (.session i) →
          let n := s.notices i
          let r := s.session i
          let out := fun (n' : NoticeSet) (kind : Byte) (payload : List Byte) =>
            sent { s.link with notices := s.link.notices.set i n' } (.session i) kind (BitVec.ofNat 8 i.toNat) payload
          (∀ c, n.cancel = some c → exec .frameSent s = .next { s with
            link := out { n with cancel := none } 0x41#8
              [c.tag, match c.reason with | .abandon => 1#8 | .timeout => 2#8 | .preempt => 3#8] }) ∧
          (∀ e, n.cancel = none → n.order = true → r.fetch = some e → exec .frameSent s = .next { s with
            link := out { n with order := false } 0x40#8
              ([e.tag] ++ put32 e.segment ++ put8 e.rung ++ put32 e.expected ++
                [(if e.retryMark then 1#8 else 0#8) ||| (if e.replacementMark then 2#8 else 0#8)]) }) ∧
          (n.cancel = none → n.order = false → n.skip = true → exec .frameSent s = .next { s with
            sessions := s.sessions.set i { r with skipCount := 0 }
            link := out { n with skip := false } 0x42#8 (put32 r.skipFirst ++ put8 r.skipCount) }) ∧
          (∀ at', n.cancel = none → n.order = false → n.skip = false → n.stall = some at' → exec .frameSent s = .next { s with
            link := out { n with stall := none } 0x43#8 (put8 r.stallCount ++ put32 at'.toNat) }) ∧
          (n.cancel = none → n.order = false → n.skip = false → n.stall = none → n.ready = true →
            exec .frameSent s = .next { s with link := out { n with ready := false } 0x44#8 (put32 (s.level i)) }) ∧
          (n.cancel = none → n.order = false → n.skip = false → n.stall = none → n.ready = false → n.fault = true →
            exec .frameSent s = .next { s with link := out { n with fault := false } 0x45#8 [1#8] }))) ∧
  ∀ (cmd : Instr) (s : State), s.nrstHigh = true → s.link.tx = .idle → s.followsChoice cmd →
    ∃ u, exec .frameSent s = .next u ∧ u.transmitterServed ∧ exec cmd s = exec cmd u

/-- The frame layout: SYNC, KIND, TARGET, LEN, the payload and SUM, the sum modulo 256 of all but SYNC; HELLO is C3 01 0E 00
0F; a field is little-endian and saturates (R2, R24). -/
def Obligations.FrameLayout : Prop :=
  (∀ (k t : Byte) (p : List Byte), p.length ≤ 255 → ∃ len sum : Byte,
    frameBytes k t p 0#8 = [0xC3#8, k, t, len] ++ p ++ [sum] ∧ len.toNat = p.length ∧
    sum.toNat = (k.toNat + t.toNat + len.toNat + (p.map (·.toNat)).sum) % 256) ∧
  frameBytes ReqKind.hello.code 0x0E#8 [] 0#8 = [0xC3#8, 0x01#8, 0x0E#8, 0x00#8, 0x0F#8] ∧
  ∀ n : Nat,
    ((put8 n).length = 1 ∧ byteAt (put8 n) 0 = min n 0xFF) ∧
    ((put16 n).length = 2 ∧ byteAt (put16 n) 0 + 256 * byteAt (put16 n) 1 = min n 0xFFFF) ∧
    ((put32 n).length = 4 ∧ byteAt (put32 n) 0 + 256 * byteAt (put32 n) 1 + 65536 * byteAt (put32 n) 2 +
      16777216 * byteAt (put32 n) 3 = min n 0xFFFFFFFF)

/-! ### Device requests -/

/-- HELLO changes no state and answers "VA24", the revision, the four capacities and part time (R22). -/
def Obligations.HelloReportsPart : Prop :=
  ∀ s : State, s.linkReady →
    exec (.hello (clean 0x0E#8)) s = .next (afterReply s (replyTo .hello 0x0E#8 .ok
      ([0x56#8, 0x41#8, 0x32#8, 0x34#8, 0x11#8, 4#8, 8#8, 4#8, 12#8] ++ put32 s.partTime.toNat)))

/-- CONFIGURE brings every field into its range and puts all twelve settings in force in one act, unless the slot count
would change while a fetch record exists, when the whole request is refused with BUSY (R175, R176). -/
def Obligations.ConfigureClampsOrBusy : Prop :=
  ∀ (c : ConfigFields) (s : State), s.linkReady →
    let m := fun (b : BitVec 16) => max 32 (min 256 b.toNat)
    let v : Settings :=
      { slotCount := max 1 (min 4 c.slotCount.toNat)
        window := max 100 (min 2000 c.window.toNat)
        fastShift := max 1 (min 4 c.fastShift.toNat)
        slowShift := max (max 1 (min 4 c.fastShift.toNat) + 1) (min 6 c.slowShift.toNat)
        margins := ⟨m c.margin0, m c.margin1, m c.margin2, m c.margin3, m c.margin4, m c.margin5, m c.margin6⟩
        opening := max 64 (min 1000000 c.opening.toNat)
        fit := max 128 (min 256 c.fit.toNat)
        activityTimeout := max 500 (min 30000 c.activityTimeout.toNat)
        retryLimit := min 7 c.retryLimit.toNat
        upHoldNeeded := max 1 (min 8 c.upHold.toNat)
        preemption := decide (1 ≤ c.preemption.toNat)
        abandonment := decide (1 ≤ c.abandonment.toNat) }
    let same := v.asRequest = configRequest c
    ((v.slotCount = s.settings.slotCount ∨ ∀ i, (s.session i).fetch = none) →
      exec (.configure (clean 0x0E#8) c) s = .next (afterReply { s with settings := v }
        (replyTo .configure 0x0E#8 (if same then .ok else .clamped) v.fields)) ∧
      v.fields.length = 31 ∧ ConfigRequest.ofPayload v.fields = v.asRequest) ∧
    (v.slotCount ≠ s.settings.slotCount → (∃ i, (s.session i).fetch ≠ none) →
      exec (.configure (clean 0x0E#8) c) s = .next (afterReply s (replyTo .configure 0x0E#8 .busy [])))

/-- RESET_SESSIONS closes every open session, ends every record, empties the queue and frees every slot without a grant, and
keeps the settings, the hold, a pending LINK and the estimator; a session's notice that an idle transmitter was about to begin
is cleared unsent (R178, R181; log 23). -/
def Obligations.ResetSessionsClosesAll : Prop :=
  ∀ s : State, s.linkOpen → (s.transmitterServed ∨ ∃ i, s.hasTurn (.session i)) → SlotsConsistent s → ActiveCountMatches s →
    ∃ core, exec (.resetSessions (clean 0x0E#8)) s = .next (afterReply core (replyTo .reset 0x0E#8 .ok [])) ∧
      (∀ i, core.session i = if (s.session i).isOpen = true then
          { s.session i with
            state := .closed, storedLevel := 0, refTime := s.partTime, stallExpiry := none, lowExpiry := none
            refillExpiry := none, fetch := none }
        else s.session i) ∧
      (∀ i, core.notices i = if (s.session i).isOpen = true then NoticeSet.empty else s.notices i) ∧
      core.arbiter = ⟨Four.const none, [], s.arbiter.hold, s.arbiter.doneGrants⟩ ∧
      core.meter = { s.meter with activeCount := 0, busyStored := s.meter.busyAt s.partTime } ∧
      core.link = { s.link with notices := core.link.notices } ∧ core.settings = s.settings ∧
      core.nrstHigh = s.nrstHigh ∧ core.partTime = s.partTime ∧ core.contention = s.contention ∧ core.pending = s.pending

/-- RESET_ALL does what RESET_SESSIONS does, and then clears the estimator, restores every default setting, releases the
hold and removes a pending LINK; the window in progress, the accepted code and part time stay; a notice
that an idle transmitter was about to begin is cleared unsent (R101, R179, R181; log 23). -/
def Obligations.ResetAllClearsEstimator : Prop :=
  ∀ s : State, s.linkOpen → SlotsConsistent s → ActiveCountMatches s →
    ∃ core, exec (.resetAll (clean 0x0E#8)) s = .next (afterReply core (replyTo .reset 0x0E#8 .ok [])) ∧
      (∀ i, core.session i = if (s.session i).isOpen = true then
          { s.session i with
            state := .closed, storedLevel := 0, refTime := s.partTime, stallExpiry := none, lowExpiry := none
            refillExpiry := none, fetch := none }
        else s.session i) ∧
      (∀ i, core.notices i = if (s.session i).isOpen = true then NoticeSet.empty else s.notices i) ∧
      core.arbiter = ⟨Four.const none, [], false, s.arbiter.doneGrants⟩ ∧
      core.meter = { s.meter with
        bytes := 0, busyStored := 0, age := 0, activeCount := 0, ring := [], fast := 0, slow := 0, empty := true } ∧
      core.link = { s.link with notices := core.link.notices, linkNotice := false } ∧
      core.settings = ⟨2, 250, 1, 3, ⟨240, 224, 208, 192, 168, 144, 112⟩, 3000, 224, 4000, 2, 2, true, true⟩ ∧
      core.nrstHigh = s.nrstHigh ∧ core.partTime = s.partTime ∧ core.contention = s.contention ∧ core.pending = s.pending

/-- GRANT_HOLD puts the hold in force and changes nothing else; a release of a hold in force lets the arbiter grant and
preempt and leaves nothing it could still grant; a release that finds it released changes nothing (R136). -/
def Obligations.GrantHoldAndRelease : Prop :=
  ∀ s : State, s.linkReady →
    let reply := replyTo .grantHold 0x0E#8 .ok []
    exec (.grantHold (clean 0x0E#8)) s = .next (afterReply { s with arbiter := { s.arbiter with hold := true } } reply) ∧
    (s.arbiter.hold = false → exec (.grantHoldRelease (clean 0x0E#8)) s = .next (afterReply s reply)) ∧
    (s.arbiter.hold = true → ∃ core, ArbiterOnly { s with arbiter := { s.arbiter with hold := false } } core ∧
      core = (State.grantAll { s with arbiter := { s.arbiter with hold := false } }).considerAll ∧ NothingToGrant core ∧
      exec (.grantHoldRelease (clean 0x0E#8)) s = .next (afterReply core reply))

/-- QUERY_LINK changes no state and reports the code, the empty flag, F, S, E, O, the accumulator, the window remaining and
the ring count as they stand (R98). -/
def Obligations.QueryLinkReports : Prop :=
  ∀ (s : State) (x : PartTime), s.linkReady → s.meter.windowExpiry = some x →
    exec (.queryLink (clean 0x0E#8)) s = .next (afterReply s (replyTo .queryLink 0x0E#8 .ok
      (put8 s.contention.accepted.toNat ++ [if s.meter.empty then 1#8 else 0#8] ++
        put32 (if s.meter.empty then 0 else s.meter.fast) ++ put32 (if s.meter.empty then 0 else s.meter.slow) ++
        put32 s.estimate ++ put32 s.settings.opening ++ put32 s.meter.bytes ++
        put16 (if 0 < s.meter.activeCount then s.meter.busyStored + (s.partTime - s.meter.busyRef).toNat
          else s.meter.busyStored) ++
        put8 s.meter.age ++ put16 (x - s.partTime).toNat ++ put8 s.meter.ring.length)))

/-- HISTORY changes no state: an empty ring answers a count of 0, a start past the newest record is refused, and else the
records from the start position on, wrapping, are answered, as many as asked for or, clamped, all (R99, R100). -/
def Obligations.HistoryReadsRing : Prop :=
  ∀ (start countLessOne : Byte) (s : State), s.linkReady →
    let ring := s.meter.ring
    let m := ring.length
    let answer := fun (c : Status1) (fields : List Byte) =>
      exec (.history (clean 0x0E#8) start countLessOne) s = .next (afterReply s (replyTo .history 0x0E#8 c fields))
    let carries := fun (c : Status1) (n : Nat) => ∃ recs : List RingRecord, recs.length = n ∧
      (∀ j, j < n → recs[j]? = ring[(start.toNat + j) % m]?) ∧
      answer c (put8 n ++ recs.flatMap fun e =>
        put32 e.formedAt.toNat ++ put32 e.sample ++ put16 e.busy ++ put8 e.code.toNat ++ put8 e.windows)
    (m = 0 → answer .ok [0#8]) ∧
    (0 < m → m ≤ start.toNat → answer .badField []) ∧
    (start.toNat < m → m < countLessOne.toNat + 1 → carries .clamped m) ∧
    (start.toNat < m → countLessOne.toNat + 1 ≤ m → carries .ok (countLessOne.toNat + 1))

/-! ### Session requests -/

/-- A request other than OPEN and QUERY_SESSION addressed to a closed session is refused with NOT_OPEN and has no effect
(R38). -/
def Obligations.ClosedSessionAnswersNotOpen : Prop :=
  ∀ (cmd : Instr) (k : ReqKind) (p : List Byte) (i : SessionId) (s : State),
    requestOf cmd = some (k, clean (sessionByte i), p) → s.linkReady → (s.session i).state = .closed →
    k.validTarget (sessionByte i) = true → k ≠ .openSession → k ≠ .querySession →
    exec cmd s = .next (afterReply s (replyTo k (sessionByte i) .notOpen []))

/-- OPEN of an open session is refused with ALREADY_OPEN and OPEN of a closed one with a defect with BAD_FIELD, either
without effect (R42, R43). A rung count whose LEN would be above 240 does not come so far (RefusedFramesChangeNothing and
log 21). -/
def Obligations.OpenRefusals : Prop :=
  ∀ (o : OpenFields) (i : SessionId) (s : State), s.linkReady → 32 + 2 * o.bitrates.length ≤ 240 →
    o.rungCount.toNat = o.bitrates.length →
    ((s.session i).state ≠ .closed → exec (.openSession (clean (sessionByte i)) o) s =
      .next (afterReply s (replyTo .openSession (sessionByte i) .alreadyOpen []))) ∧
    ((s.session i).state = .closed → openDefect o → exec (.openSession (clean (sessionByte i)) o) s =
      .next (afterReply s (replyTo .openSession (sessionByte i) .badField [])))

/-- OPEN of a closed session without a defect writes the record whole, with every numeric field brought into range in the
order of R44; the arbiter is then handed the session, and nothing else happens (R44, R45, R46, R130). -/
def Obligations.OpenWritesRecord : Prop :=
  ∀ (o : OpenFields) (i : SessionId) (s : State), s.linkReady →
    o.rungCount.toNat = o.bitrates.length → (s.session i).state = .closed → ¬ openDefect o →
    ∃ core, State.handedOver (State.withSession s i (openedRecord o s.partTime)) i false false core ∧
      exec (.openSession (clean (sessionByte i)) o) s = .next (afterReply core (openReply i o))

/-- OPEN with a slot free, nobody waiting and granting allowed is granted in the same event: the record carries tag 1, the
first segment, the predicted size at its rung and the free slot, ORDER is pending, and with a low mark above 0 the rung is
the floor (R46, R116, R128, R145). -/
def Obligations.OpenIsGrantedAtOnce : Prop :=
  ∀ (o : OpenFields) (i : SessionId) (k : SlotId) (s : State), s.linkReady → o.rungCount.toNat = o.bitrates.length →
    (s.session i).state = .closed → ¬ openDefect o → s.arbiter.queue = [] → s.arbiter.hold = false →
    s.contention.accepted ≠ 7#3 → k.toNat < s.settings.slotCount → s.arbiter.slots.get k = none →
    (∀ j : SlotId, j.toNat < k.toNat → s.arbiter.slots.get j ≠ none) →
    let r := openedRecord o s.partTime
    ∃ (core : State) (rung : Nat), exec (.openSession (clean (sessionByte i)) o) s =
        .next (afterReply core (openReply i o)) ∧
      r.floor ≤ rung ∧ rung ≤ r.cap ∧ (0 < r.markL → rung = r.floor) ∧
      core.session i = { r with
        tagCounter := 1#8
        fetch := some
          { tag := 1#8, segment := o.firstSegment.toNat, rung := rung
            expected := r.bitrate rung * r.segmentMs * 256 / 2048
            received := 0, state := .ordered, grantTime := s.partTime
            activityExpiry := s.partTime + BitVec.ofNat 32 s.settings.activityTimeout
            attempt := 0, retryMark := false, replacementMark := false, slot := k } } ∧
      (∀ j, j ≠ i → core.session j = s.session j) ∧
      core.arbiter = { s.arbiter with slots := s.arbiter.slots.set k (some ⟨i, s.partTime⟩) } ∧
      core.link = { s.link with notices := s.link.notices.set i { s.notices i with order := true, cancel := none } } ∧
      core.meter = s.meter ∧ core.settings = s.settings ∧ core.contention = s.contention ∧ core.partTime = s.partTime

/-- CLOSE of an open session, in whatever state, leaves it CLOSED at level 0 with no record, no entry, no expiry and no
pending notice, its record ended without a CANCEL; its other fields keep their values; a slot that this frees is granted on,
and beside that nothing happens; a notice of the session that an idle transmitter was about to begin is cleared unsent
(R18, R47, R48, R135, R157, R174; log 23). -/
def Obligations.CloseShutsSession : Prop :=
  ∀ (i : SessionId) (s : State), s.linkOpen → (s.transmitterServed ∨ s.hasTurn (.session i)) →
    (s.session i).state ≠ .closed →
    let e := s.endRecord i none
    let shut := { s.session i with
      state := .closed, storedLevel := 0, refTime := s.partTime, stallExpiry := none, lowExpiry := none
      refillExpiry := none, fetch := none }
    let u := { State.withSession e i shut with
      arbiter := { e.arbiter with queue := s.arbiter.queue.filter fun d => d.session != i }
      link := { e.link with notices := e.link.notices.set i NoticeSet.empty } }
    ∃ core, ArbiterOnly u core ∧ core = (if (s.session i).fetch = none then u else u.grantAll) ∧
      core.session i = shut ∧ core.notices i = NoticeSet.empty ∧ core.isQueued i = false ∧
      exec (.closeSession (clean (sessionByte i))) s = .next (afterReply core (replyTo .closeSession (sessionByte i) .ok []))

/-- PLAY of an open session, state by state; where the state changes the arbiter is handed the session (R72, R73, R130). -/
def Obligations.PlayByState : Prop :=
  ∀ (i : SessionId) (s : State), s.linkReady →
    let r := s.session i
    let ok := replyTo .play (sessionByte i) .ok []
    let run := exec (.play (clean (sessionByte i))) s
    (r.state = .priming → run = .next (afterReply (State.withSession s i { r with autostart := true }) ok)) ∧
    (r.state = .playing ∨ r.state = .stalled → run = .next (afterReply s ok)) ∧
    (r.state = .ended ∨ r.state = .fault → run = .next (afterReply s (replyTo .play (sessionByte i) .wrongState []))) ∧
    (r.state = .primed ∨ r.state = .paused →
      (0 < r.storedLevel → ∃ core,
        State.handedOver (State.withSession s i (Session.movedTo r s.partTime .playing)) i (s.toldUrgent i) false core ∧
        run = .next (afterReply core ok)) ∧
      (r.storedLevel = 0 → r.allFetched = true → ∃ core,
        State.handedOver (State.withSession s i (Session.movedTo r s.partTime .ended)) i (s.toldUrgent i) false core ∧
        run = .next (afterReply core ok)) ∧
      (r.storedLevel = 0 → r.allFetched = false → ∃ core,
        State.handedOver (State.stalledAtZero s i) i (s.toldUrgent i) false core ∧ run = .next (afterReply core ok))) ∧
    (Session.takesControl r = true → run = .next (afterReply (State.playedAlone s i) ok))

/-- PAUSE of an open session, state by state; where the state changes the arbiter is handed the session (R73, R130). -/
def Obligations.PauseByState : Prop :=
  ∀ (i : SessionId) (s : State), s.linkReady →
    let r := s.session i
    let ok := replyTo .pause (sessionByte i) .ok []
    let run := exec (.pause (clean (sessionByte i))) s
    (r.state = .priming → run = .next (afterReply (State.withSession s i { r with autostart := false }) ok)) ∧
    (r.state = .primed ∨ r.state = .paused → run = .next (afterReply s ok)) ∧
    (r.state = .ended ∨ r.state = .fault → run = .next (afterReply s (replyTo .pause (sessionByte i) .wrongState []))) ∧
    (r.state = .playing ∨ r.state = .stalled → ∃ core,
      State.handedOver (State.withSession s i (Session.movedTo r s.partTime .paused)) i (s.toldUrgent i) false core ∧
      run = .next (afterReply core ok)) ∧
    (Session.takesControl r = true → run = .next (afterReply (State.pausedAlone s i) ok))

/-- A broadcast PLAY or PAUSE answers OK with the mask of the sessions that took it. It is the request addressed to session
0, 1, 2 and 3 alone, one after another: each session's record and STALL are as its own PLAY or PAUSE leaves them, a session
that refuses or is closed is unchanged, and beside that only the arbiter acts (R21, R72, R73, R75). -/
def Obligations.BroadcastReachesEverySession : Prop :=
  ∀ s : State, s.linkReady →
    (∃ core, ArbiterOnly { s with
        sessions := Four.ofFn fun i => (s.session i).afterPlay s.partTime
        link := { s.link with notices := Four.ofFn fun i =>
          if (s.session i).stallsOnPlay then (s.notices i).withStall s.partTime else s.notices i } } core ∧
      core = Idx4.all.foldl State.playedAlone s ∧
      exec (.play (clean 0x0F#8)) s = .next (afterReply core (replyTo .play 0x0F#8 .ok [State.controlMask s]))) ∧
    (∃ core, ArbiterOnly { s with sessions := Four.ofFn fun i => (s.session i).afterPause s.partTime } core ∧
      core = Idx4.all.foldl State.pausedAlone s ∧
      exec (.pause (clean 0x0F#8)) s = .next (afterReply core (replyTo .pause 0x0F#8 .ok [State.controlMask s])))

/-- SEEK beyond the last segment of an on-demand session is refused with BAD_FIELD; any other empties the level, names the
next segment, returns the session to PRIMING with no constraint, no entry and no old record, which ends without a CANCEL,
and sets autostart when it was PLAYING; the arbiter is then handed the session and the slot freed, and nothing else happens
(R78, R79, R130, R157). -/
def Obligations.SeekReturnsToPriming : Prop :=
  ∀ (i : SessionId) (segment : BitVec 32) (s : State), s.linkReady → (s.session i).state ≠ .closed →
    let r := s.session i
    let beyond := r.live = false ∧ ∃ l, r.lastSegment = some l ∧ l < segment.toNat
    (beyond → exec (.seek (clean (sessionByte i)) segment) s =
      .next (afterReply s (replyTo .seek (sessionByte i) .badField []))) ∧
    (¬ beyond → ∃ core, State.handedOver
        { State.withSession (s.endRecord i none) i { r with
            storedLevel := 0, refTime := s.partTime, nextSegment := segment.toNat, allFetched := false, upHold := 0
            rungLimit := none, attempts := 0, autostart := decide (r.state = .playing), state := .priming
            stallExpiry := none, lowExpiry := none, refillExpiry := none, fetch := none } with
          arbiter := { (s.endRecord i none).arbiter with queue := s.arbiter.queue.filter fun e => e.session != i } }
        i (s.toldUrgent i) (decide (r.fetch ≠ none)) core ∧
      exec (.seek (clean (sessionByte i)) segment) s = .next (afterReply core (replyTo .seek (sessionByte i) .ok [])))

/-- LIMITS brings the cap, the floor and the weight into range in this order, replaces the three and nothing else, and
reports them (R51, R52). -/
def Obligations.LimitsClamped : Prop :=
  ∀ (i : SessionId) (cap floor weight : Byte) (s : State), s.linkReady → (s.session i).state ≠ .closed →
    let r := s.session i
    let c := min (r.ladder.length - 1) cap.toNat
    let f := min c floor.toNat
    let w := max 1 (min 15 weight.toNat)
    exec (.limits (clean (sessionByte i)) cap floor weight) s =
      .next (afterReply (State.withSession s i { r with cap := c, floor := f, weight := w })
        (replyTo .limits (sessionByte i)
          (if c = cap.toNat ∧ f = floor.toNat ∧ w = weight.toNat then .ok else .clamped) (put8 c ++ put8 f ++ put8 w)))

/-- PLAYOUT is refused in ENDED and FAULT; else it writes the reported level, at most 120 000, and the session primes,
recovers, stalls or ends on it as its state and the level say; the arbiter is then handed the session; the reply carries the
level written (R71, R72, R76, R77, R130; that a queued session already urgent that stalls is not considered again is log 25). -/
def Obligations.PlayoutWritesLevel : Prop :=
  ∀ (i : SessionId) (level : BitVec 32) (s : State), s.linkReady → (s.session i).state ≠ .closed →
    let v := min level.toNat 120000
    let r := s.session i
    let r1 := { r with storedLevel := v, refTime := s.partTime }
    let reply := replyTo .playout (sessionByte i) (if level.toNat ≤ 120000 then .ok else .clamped) (put32 v)
    let leaves := fun (u : State) => ∃ core, State.handedOver u i (s.toldUrgent i) false core ∧
      exec (.playout (clean (sessionByte i)) level) s = .next (afterReply core reply)
    let ready := fun (u : State) =>
      { u with link := { u.link with notices := u.link.notices.set i { u.notices i with ready := true } } }
    let met := r.markS0 ≤ v ∨ r.allFetched = true
    (r.state = .ended ∨ r.state = .fault → exec (.playout (clean (sessionByte i)) level) s =
      .next (afterReply s (replyTo .playout (sessionByte i) .wrongState []))) ∧
    (r.state = .primed ∨ r.state = .paused ∨ (r.state = .playing ∧ 0 < v) ∨ ((r.state = .priming ∨ r.state = .stalled) ∧ ¬ met) →
      leaves (State.withSession s i r1.rearm)) ∧
    (r.state = .priming → met → 0 < v →
      leaves (ready (State.withSession s i
        ({ r1 with state := (if r.autostart then .playing else .primed), autostart := false } : Session).rearm))) ∧
    (r.state = .stalled → met → 0 < v →
      leaves (ready (State.withSession s i ({ r1 with state := .playing } : Session).rearm))) ∧
    (r.state = .playing → v = 0 → r.allFetched = true →
      leaves (State.withSession s i ({ r1 with state := .ended } : Session).rearm)) ∧
    (r.state = .playing → v = 0 → r.allFetched = false → leaves (State.stalledAtZero s i))

/-- EDGE is refused for an on-demand session; a live session's edge rises to a higher value, with the arbiter handed the
session, and is kept against any other, and the reply carries the edge in force (R80, R81, R130). -/
def Obligations.EdgeOnlyRises : Prop :=
  ∀ (i : SessionId) (segment : BitVec 32) (s : State), s.linkReady → (s.session i).state ≠ .closed →
    let r := s.session i
    let run := exec (.edge (clean (sessionByte i)) segment) s
    (r.live = false → run = .next (afterReply s (replyTo .edge (sessionByte i) .wrongState []))) ∧
    (r.live = true → segment.toNat ≤ r.liveEdge →
      run = .next (afterReply s (replyTo .edge (sessionByte i) .ok (put32 r.liveEdge)))) ∧
    (r.live = true → r.liveEdge < segment.toNat →
      ∃ core, State.handedOver (State.withSession s i { r with liveEdge := segment.toNat }) i (s.toldUrgent i) false core ∧
        run = .next (afterReply core (replyTo .edge (sessionByte i) .ok (put32 segment.toNat))))

/-- QUERY_SESSION, of an open or a closed session, changes no state and reports the record field by field in the layout of
01 §1.11 (R53, R54). -/
def Obligations.QuerySessionReports : Prop :=
  ∀ (i : SessionId) (s : State), s.linkReady →
    let r := s.session i
    let flag := fun (b : Bool) => if b then 1#8 else 0#8
    exec (.querySession (clean (sessionByte i))) s = .next (afterReply s (replyTo .querySession (sessionByte i) .ok
      ([match r.state with
          | .closed => 0#8 | .priming => 1#8 | .primed => 2#8 | .playing => 3#8 | .paused => 4#8 | .stalled => 5#8
          | .ended => 6#8 | .fault => 7#8] ++
        [flag r.live] ++ put8 r.ladder.length ++ put16 r.segmentMs ++ put32 r.nextSegment ++
        put32 (r.lastSegment.getD 0xFFFFFFFF) ++ put32 r.liveEdge ++ put8 r.weight ++ put8 r.cap ++ put8 r.floor ++
        put32 r.markL ++ put32 r.markT ++ put32 r.markH ++ put32 r.markS0 ++
        put32 (if r.state = .playing then r.storedLevel - (s.partTime - r.refTime).toNat else r.storedLevel) ++
        put8 r.activeRung ++ put8 r.upHold ++
        (match r.rungLimit with
          | none => put8 0 ++ put8 0
          | some (.exact k) => put8 1 ++ put8 k
          | some (.atMost k) => put8 2 ++ put8 k) ++
        [flag r.autostart ||| (if r.allFetched then 2#8 else 0#8)] ++ put8 r.stallCount ++ put32 r.skipFirst ++
        put8 r.skipCount ++ [r.tagCounter] ++ put8 r.attempts ++
        (match r.fetch with
          | none => List.replicate 27 0#8
          | some f => [1#8, f.tag] ++ put32 f.segment ++ put8 f.rung ++ put32 f.expected ++ put32 f.received ++
              [match f.state with | .ordered => 1#8 | .active => 2#8] ++ put32 f.grantTime.toNat ++
              put32 f.activityExpiry.toNat ++ put8 f.attempt ++
              [flag f.retryMark ||| (if f.replacementMark then 2#8 else 0#8)] ++ put8 f.slot.toNat) ++
        r.ladder.flatMap fun e => put16 e.bitrate ++ put16 e.ratio ++ [flag e.observed])))

/-! ### Fetch reports -/

/-- A report whose tag is not that of the session's current record, or that finds no record, is refused with STALE_TAG and
changes nothing (R148). -/
def Obligations.StaleReportsRefused : Prop :=
  ∀ (i : SessionId) (tag : Byte) (n : BitVec 32) (reason : Byte) (s : State), s.linkReady → (s.session i).state ≠ .closed →
    (∀ f, (s.session i).fetch = some f → f.tag ≠ tag) →
    let w := clean (sessionByte i)
    let stale := fun (k : ReqKind) => Host.Outcome.next (φ := Fault) (ρ := Refusal)
      (afterReply s (replyTo k (sessionByte i) .staleTag []))
    exec (.fetchStart w tag n) s = stale .start ∧ exec (.fetchProgress w tag n) s = stale .progress ∧
    exec (.fetchDone w tag n) s = stale .done ∧ exec (.fetchFail w tag reason) s = stale .fail

/-- START makes an ORDERED record ACTIVE, replaces X by a size above 0 and rearms the activity expiry; for a record already
ACTIVE it is refused with WRONG_STATE (R149). -/
def Obligations.StartActivatesRecord : Prop :=
  ∀ (i : SessionId) (f : FetchRecord) (size : BitVec 32) (s : State), s.linkReady → (s.session i).state ≠ .closed →
    (s.session i).fetch = some f →
    (f.state = .ordered → exec (.fetchStart (clean (sessionByte i)) f.tag size) s = .next (afterReply
      { State.withSession s i { s.session i with fetch := some { f with
          state := .active
          expected := if size.toNat = 0 then f.expected else size.toNat
          activityExpiry := s.partTime + BitVec.ofNat 32 s.settings.activityTimeout } } with
        meter := LinkMeter.oneMoreActive s.meter s.partTime }
      (replyTo .start (sessionByte i) .ok []))) ∧
    (f.state = .active → exec (.fetchStart (clean (sessionByte i)) f.tag size) s =
      .next (afterReply s (replyTo .start (sessionByte i) .wrongState [])))

/-- PROGRESS makes an ORDERED record ACTIVE; a count at or below Rcv is held; a count above it credits the difference, moves
Rcv and X up, rearms the activity expiry, and the fetch is kept where an examination does not go on to the remaining time
(R86, R150, R167). -/
def Obligations.ProgressCountsBytes : Prop :=
  ∀ (i : SessionId) (f : FetchRecord) (count : BitVec 32) (s : State), s.linkReady → (s.session i).state ≠ .closed →
    (s.session i).fetch = some f →
    let r := s.session i
    let m := activeMeter f s.meter s.partTime
    let reply := replyTo .progress (sessionByte i) .ok []
    let run := exec (.fetchProgress (clean (sessionByte i)) f.tag count) s
    (count.toNat ≤ f.received → run = .next (afterReply
      { State.withSession s i { r with fetch := some { f with state := .active } } with meter := m } reply)) ∧
    (f.received < count.toNat →
      (s.settings.abandonment = false ∨ f.rung ≤ r.floor ∨ f.replacementMark = true ∨ f.expected ≤ count.toNat ∨
        r.state ≠ .playing) →
      run = .next (afterReply
        { State.withSession s i { r with fetch := some { f with
            state := .active
            received := count.toNat
            expected := max f.expected count.toNat
            activityExpiry := s.partTime + BitVec.ofNat 32 s.settings.activityTimeout } } with
          meter := { m with bytes := s.meter.bytes + (count.toNat - f.received) } } reply))

/-- The examination of a fetch, and what an advancing PROGRESS does on it. A fetch is kept unless it is ACTIVE with bytes to
come, of a PLAYING session, above the floor and no replacement, with abandonment enabled and a share above 0; and then
while the remaining time at the share is within the level. Else the replacement is the highest rung below the fetch's with a
predicted time within the level and below the remaining time, or the floor when that is below the remaining time, and
without one the fetch is kept. On a replacement the record ends with CANCEL for reason ABANDON, the up-hold count becomes 0
and the constraint EXACT, and the arbiter is handed the session and the slot (R166 to R170). That the grants then come before the
consideration of preemption, which R170 names first, is the model's choice by R138 and R171 (log 14). -/
def Obligations.ProgressMayAbandon : Prop :=
  (∀ (i : SessionId) (s : State), (s.session i).fetch = none → s.examine i = none) ∧
  (∀ (i : SessionId) (f : FetchRecord) (best : Nat) (s : State), (s.session i).fetch = some f →
    let r := s.session i
    let share := s.share i
    let remaining := ((f.expected - f.received) * 8 + (share - 1)) / share
    let time := fun (k : Nat) => (r.predictedSize k * 8 + (share - 1)) / share
    let good := fun (k : Nat) => r.floor ≤ k ∧ k < f.rung ∧ time k ≤ s.level i ∧ time k < remaining
    let eligible := s.settings.abandonment = true ∧ f.state = .active ∧ r.floor < f.rung ∧ f.replacementMark = false ∧
      f.received < f.expected ∧ r.state = .playing ∧ 0 < share
    (¬ eligible → s.examine i = none) ∧
    (eligible → remaining ≤ s.level i → s.examine i = none) ∧
    (eligible → s.level i < remaining → good best → (∀ k, good k → k ≤ best) → s.examine i = some best) ∧
    (eligible → s.level i < remaining → (∀ k, ¬ good k) → time r.floor < remaining → s.examine i = some r.floor) ∧
    (eligible → s.level i < remaining → (∀ k, ¬ good k) → remaining ≤ time r.floor → s.examine i = none)) ∧
  (∀ (i : SessionId) (f : FetchRecord) (count : BitVec 32) (s : State), s.linkReady → (s.session i).state ≠ .closed →
    (s.session i).fetch = some f → f.received < count.toNat →
    let u := { State.withSession s i { s.session i with fetch := some { f with
        state := .active
        received := count.toNat
        expected := max f.expected count.toNat
        activityExpiry := s.partTime + BitVec.ofNat 32 s.settings.activityTimeout } } with
      meter := { activeMeter f s.meter s.partTime with bytes := s.meter.bytes + (count.toNat - f.received) } }
    let leaves := fun (core : State) => exec (.fetchProgress (clean (sessionByte i)) f.tag count) s =
      .next (afterReply core (replyTo .progress (sessionByte i) .ok []))
    (u.examine i = none → leaves u) ∧
    (∀ k, u.examine i = some k →
      (∃ core, State.handedOver (u.abandonedTo i k) i (s.toldUrgent i) true core ∧ leaves core) ∧
      (u.abandonedTo i k).session i = { s.session i with fetch := none, upHold := 0, rungLimit := some (.exact k) } ∧
      (u.abandonedTo i k).notices i = (s.notices i).afterEnding f.tag (some .abandon)))

/-- DONE completes the fetch with the greater of its total and Rcv: the bytes are credited, the rung's ratio learns, the
active rung, up-hold count, next segment, attempt count and all-fetched flag are written, D is added to the level up to
120 000, priming or recovery may end, and the expiries are rearmed; the record ends without a CANCEL, and the arbiter is
handed the session and the slot (R70, R71, R104, R107, R124, R130, R151, R152, R153, R157, R158). A record that could have been
preempted is noted for the considerations of this part time (R142; the model's form, log 24). -/
def Obligations.DoneCompletesFetch : Prop :=
  ∀ (i : SessionId) (f : FetchRecord) (total : BitVec 32) (s : State), s.linkReady → (s.session i).state ≠ .closed →
    (s.session i).fetch = some f →
    let r := s.session i
    let t := max total.toNat f.received
    let n := r.bitrate f.rung * r.segmentMs / 8
    let last := r.live = false ∧ r.lastSegment = some f.segment
    let level := min (s.level i + r.segmentMs) 120000
    let met := r.markS0 ≤ level ∨ r.allFetched = true ∨ last
    let st : SessionState := match r.state with
      | .priming => if met then (if r.autostart then .playing else .primed) else .priming
      | .stalled => if met then .playing else .stalled
      | other => other
    let left : Session := ({ r with
      ladder := if t = 0 then r.ladder else r.ladder.modify f.rung fun e =>
        { e with
          ratio := (3 * e.ratio + max (max 64 (e.ratio / 2)) (min (min 1023 (2 * e.ratio)) (t * 256 / n)) + 2) / 4
          observed := true }
      activeRung := f.rung
      upHold := if f.rung = r.activeRung then min (r.upHold + 1) 15 else 1
      nextSegment := f.segment + 1
      allFetched := r.allFetched || decide last
      attempts := 0
      storedLevel := level
      refTime := s.partTime
      state := st
      autostart := r.autostart && !(decide (r.state = .priming ∧ met))
      fetch := none } : Session).rearm
    (∀ e ∈ r.ladder, 64 ≤ e.ratio ∧ e.ratio ≤ 1023) →
    let e := s.endRecord i none
    let noted := if s.urgent i = false ∧ f.received * 4 < f.expected then
        s.arbiter.doneGrants.set f.slot (some f.grantTime)
      else s.arbiter.doneGrants
    ∃ core, exec (.fetchDone (clean (sessionByte i)) f.tag total) s =
        .next (afterReply { core with arbiter := { core.arbiter with doneGrants := noted } }
          (replyTo .done (sessionByte i) .ok [])) ∧
      State.handedOver { State.withSession e i left with
        meter := { e.meter with bytes := s.meter.bytes + (t - f.received) }
        link := { e.link with notices := e.link.notices.set i { e.notices i with
          ready := (s.notices i).ready || decide ((r.state = .priming ∨ r.state = .stalled) ∧ met) } } }
        i (s.toldUrgent i) true core

/-- FAIL with a reason of 1 to 3 ends the record without a CANCEL, failure handling follows, and the arbiter is handed the
session and the slot; with any other reason it is refused with BAD_FIELD and has no effect (R154, R158 to R163). -/
def Obligations.FailIsHandled : Prop :=
  ∀ (i : SessionId) (f : FetchRecord) (reason : Byte) (s : State), s.linkReady → (s.session i).state ≠ .closed →
    (s.session i).fetch = some f →
    (1 ≤ reason.toNat ∧ reason.toNat ≤ 3 → ∃ core,
      State.handedOver (State.afterFailure (s.endRecord i none) i f) i (s.toldUrgent i) true core ∧
      exec (.fetchFail (clean (sessionByte i)) f.tag reason) s =
        .next (afterReply core (replyTo .fail (sessionByte i) .ok []))) ∧
    (reason.toNat = 0 ∨ 3 < reason.toNat → exec (.fetchFail (clean (sessionByte i)) f.tag reason) s =
      .next (afterReply s (replyTo .fail (sessionByte i) .badField [])))

/-- The ending path of a record: a pending ORDER is withdrawn and then no CANCEL is raised, else the CANCEL of the ending is
raised with the record's tag unless one is pending; an ACTIVE record leaves the busy count; its slot is freed; the session
holds no record; and nothing else changes. Without a record nothing ends (R14, R17, R87, R157, R158). -/
def Obligations.EndingPathSteps : Prop :=
  ∀ (i : SessionId) (why : Option CancelReason) (s : State),
    ((s.session i).fetch = none → s.endRecord i why = s) ∧
    ∀ f, (s.session i).fetch = some f →
      s.endRecord i why = { s with
      sessions := s.sessions.set i { s.session i with fetch := none }
      link := { s.link with notices := s.link.notices.set i ((s.notices i).afterEnding f.tag why) }
      meter := { s.meter with
        activeCount := (if f.state = .active then s.meter.activeCount - 1 else s.meter.activeCount),
        busyStored := (if f.state = .active ∧ s.meter.activeCount = 1 then
          s.meter.busyStored + (s.partTime - s.meter.busyRef).toNat else s.meter.busyStored) }
      arbiter := { s.arbiter with slots := s.arbiter.slots.set f.slot none } }

/-! ### Expiries -/

/-- ACTIVITY_EXPIRY, when it is due, ends the record with CANCEL for reason TIMEOUT, failure handling follows, the arbiter is
handed the session and the slot (R156, R158 to R163). -/
def Obligations.ActivityExpiryFails : Prop :=
  ∀ (i : SessionId) (f : FetchRecord) (s : State), s.nrstHigh = true → s.transmitterServed → (s.session i).fetch = some f →
    f.activityExpiry = s.partTime →
    ∃ core, State.handedOver (State.afterFailure (s.endRecord i (some .timeout)) i f) i (s.toldUrgent i) true core ∧
      exec (.activityExpiry i) s = .next core

/-- STALL_EXPIRY, when it is due, leaves level 0 and the session ENDED when all is fetched, and STALLED with a stall counted
and STALL raised otherwise; the expiries are clear, and the arbiter is handed the session (R66, R130; that a queued
session already urgent that stalls is not considered again is log 25). -/
def Obligations.StallExpiryStallsOrEnds : Prop :=
  ∀ (i : SessionId) (s : State), s.nrstHigh = true → s.transmitterServed → (s.session i).stallExpiry = some s.partTime →
    let r := s.session i
    (r.allFetched = true → ∃ core, State.handedOver (State.withSession s i { r with
        storedLevel := 0, refTime := s.partTime, state := .ended, stallExpiry := none, lowExpiry := none
        refillExpiry := none }) i (s.toldUrgent i) false core ∧ exec (.stallExpiry i) s = .next core) ∧
    (r.allFetched = false → ∃ core, State.handedOver (State.stalledAtZero s i) i (s.toldUrgent i) false core ∧
      ((State.stalledAtZero s i).session i).stallExpiry = none ∧ ((State.stalledAtZero s i).session i).lowExpiry = none ∧
      ((State.stalledAtZero s i).session i).refillExpiry = none ∧ exec (.stallExpiry i) s = .next core)

/-- LOW_EXPIRY and REFILL_EXPIRY, when due, clear themselves and hand the session to the arbiter, the former as one that has
just become urgent; they write neither level nor state (R67, R68, R130, R138). -/
def Obligations.LowAndRefillExpiries : Prop :=
  ∀ (i : SessionId) (s : State), s.nrstHigh = true → s.transmitterServed →
    ((s.session i).lowExpiry = some s.partTime → ∃ core,
      State.handedOver (State.withSession s i { s.session i with lowExpiry := none }) i false false core ∧
      exec (.lowExpiry i) s = .next core) ∧
    ((s.session i).refillExpiry = some s.partTime → ∃ core,
      State.handedOver (State.withSession s i { s.session i with refillExpiry := none }) i (s.toldUrgent i) false core ∧
      exec (.refillExpiry i) s = .next core)

/-- WINDOW_EXPIRY, when due: the age rises; with busy at half the ended window, or at 20 ms in the eighth window, a sample
forms, its record is added to the ring of at most 12, F and S are seeded or averaged and the accumulator is cleared; in the
eighth window with less busy it is cleared without a sample; else it carries over. The next window is armed with the W in
force. Without a sample nothing else changes. A sample has every fetch examined on the state it leaves: each one given up
ends with CANCEL for reason ABANDON, an up-hold count of 0 and its EXACT constraint; then each such session that wants a
fetch joins the queue's tail, in order of number, the arbiter grants and then considers preemption for the urgent entries;
and beside that nothing changes (R83, R87 to R90, R92, R93, R95, R166, R170; log 14). -/
def Obligations.WindowExpirySamples : Prop :=
  ∀ s : State, s.nrstHigh = true → s.transmitterServed → s.meter.windowExpiry = some s.partTime →
    let m := s.meter
    let busy := if 0 < m.activeCount then m.busyStored + (s.partTime - m.busyRef).toNat else m.busyStored
    let age := m.age + 1
    let armed := { m with
      windowExpiry := some (s.partTime + BitVec.ofNat 32 s.settings.window)
      windowLength := s.settings.window
      busyRef := s.partTime }
    let cleared := { armed with bytes := 0, busyStored := 0, age := 0 }
    let value := min 1000000 (m.bytes * 8 / busy)
    let mean := fun (shift old : Nat) => (old * (2 ^ shift - 1) + value + 2 ^ (shift - 1)) / 2 ^ shift
    let forms := m.windowLength / 2 ≤ busy ∨ (age = 8 ∧ 20 ≤ busy)
    (¬ forms → exec .windowExpiry s = .next
      { s with meter := if age = 8 then cleared else { armed with busyStored := busy, age := age } }) ∧
    (forms →
      let meter := { cleared with
        ring := (if m.ring.length < 12 then m.ring else m.ring.drop 1) ++
          [⟨s.partTime, value, busy, s.contention.accepted, age⟩]
        fast := if m.empty then value else mean s.settings.fastShift m.fast
        slow := if m.empty then value else mean s.settings.slowShift m.slow
        empty := false }
      let u := { s with meter := meter }
      let given := Idx4.all.foldl (fun (v : State) i => (u.examine i).elim v (v.abandonedTo i)) u
      let joined := Idx4.all.foldl (fun (v : State) i =>
        if u.examine i ≠ none ∧ v.wants i = true ∧ v.isQueued i = false then
          { v with arbiter := { v.arbiter with queue := v.arbiter.queue ++ [⟨i, false⟩] } }
        else v) given
      ∃ core : State, exec .windowExpiry s = .next core ∧ ArbiterOnly given core ∧
        ((∀ i, u.examine i = none) → core = u) ∧
        ((∃ i, u.examine i ≠ none) → core = joined.grantAll.considerAll) ∧
        core.meter = { meter with activeCount := core.meter.activeCount } ∧
        ∀ i, (u.examine i = none → given.session i = s.session i ∧ given.notices i = s.notices i) ∧
          ∀ k f, u.examine i = some k → (s.session i).fetch = some f →
            given.session i = { s.session i with fetch := none, upHold := 0, rungLimit := some (.exact k) } ∧
            given.notices i = (s.notices i).afterEnding f.tag (some .abandon))

/-- An expiry that is not armed at the present part time does not fall: its command changes nothing. The gap expiry, when it
is due, discards the frame taken so far and nothing else (R4, R27; that a command for an expiry not due is idle is log 4). -/
def Obligations.OnlyDueExpiriesFall : Prop :=
  ∀ s : State, s.nrstHigh = true →
    (s.link.gap = some s.partTime → exec .interByteGapExpiry s =
      .next { s with link := { s.link with framer := .hunt, gap := none } }) ∧
    (s.link.gap ≠ some s.partTime → exec .interByteGapExpiry s = .next s) ∧
    (s.link.rdyExpiry ≠ some s.partTime → exec .rdyFirstRise s = .next s) ∧
    (s.meter.windowExpiry ≠ some s.partTime → exec .windowExpiry s = .next s) ∧
    ∀ i, ((s.session i).stallExpiry ≠ some s.partTime → exec (.stallExpiry i) s = .next s) ∧
      ((s.session i).lowExpiry ≠ some s.partTime → exec (.lowExpiry i) s = .next s) ∧
      ((s.session i).refillExpiry ≠ some s.partTime → exec (.refillExpiry i) s = .next s) ∧
      ((∀ f, (s.session i).fetch = some f → f.activityExpiry ≠ s.partTime) → exec (.activityExpiry i) s = .next s)

/-! ### Numbers and choices -/

/-- The three level expiries as they are armed from the stored level, the reference time and the state (R62, R63, R64). -/
def Obligations.LevelExpiriesArmed : Prop :=
  ∀ r : Session,
    (r.state = .playing → 0 < r.storedLevel → r.stallDue = some (r.refTime + BitVec.ofNat 32 r.storedLevel)) ∧
    (r.state ≠ .playing ∨ r.storedLevel = 0 → r.stallDue = none) ∧
    (r.state = .playing → 0 < r.markL → r.markL ≤ r.storedLevel →
      r.lowDue = some (r.refTime + BitVec.ofNat 32 (r.storedLevel - r.markL + 1))) ∧
    (r.state ≠ .playing ∨ r.markL = 0 ∨ r.storedLevel < r.markL → r.lowDue = none) ∧
    (r.state = .playing → r.markH - r.segmentMs < r.storedLevel →
      r.refillDue = some (r.refTime + BitVec.ofNat 32 (r.storedLevel - (r.markH - r.segmentMs)))) ∧
    (r.state ≠ .playing ∨ r.storedLevel ≤ r.markH - r.segmentMs → r.refillDue = none)

/-- The link estimate: the lower of F and S, or O while the estimator is empty, times the margin of the accepted code over
256; it is 0 at code 7 and never exceeds the base, for margins within their range (R34, R35, R96, R97). -/
def Obligations.LinkEstimateFormula : Prop :=
  ∀ s : State, s.settings.inRange →
    let base := if s.meter.empty then s.settings.opening else min s.meter.fast s.meter.slow
    let m := s.settings.margins
    s.estimate = base * ([m.m0, m.m1, m.m2, m.m3, m.m4, m.m5, m.m6, 0].getD s.contention.accepted.toNat 0) / 256 ∧
    s.estimate ≤ base ∧ (s.contention.accepted = 7#3 → s.estimate = 0)

/-- Shares and predictions: the share is floor(E × w / Wsum) over the session and every other that fetches or waits; P(r) is
floor(b × D × q* / 2048); Tp(r) is the ceiling of P × 8 / share, unbounded at share 0 (R109, R110, R112, R113). -/
def Obligations.SharesAndPredictions : Prop :=
  ∀ (i : SessionId) (s : State) (r : Session) (k : Nat),
    let counted := fun (j : SessionId) => j = i ∨ (s.session j).fetch ≠ none ∨ ∃ e ∈ s.arbiter.queue, e.session = j
    (∃ wsum, s.share i = s.estimate * (s.session i).weight / wsum ∧
      ∃ inSet : List SessionId, inSet.Nodup ∧ (∀ j, j ∈ inSet ↔ counted j) ∧
        wsum = (inSet.map fun j => (s.session j).weight).sum) ∧
    s.share i ≤ s.estimate ∧
    r.predictedSize k = r.bitrate k * r.segmentMs * effectiveRatio r.ladder k / 2048 ∧
    r.predictedTime 0 k = none ∧
    ∀ share, 0 < share → ∃ t, r.predictedTime share k = some t ∧ r.predictedSize k * 8 ≤ t * share ∧
      ∀ u, r.predictedSize k * 8 ≤ u * share → t ≤ u

/-- The effective ratio borrows from the nearest observed rung, below first; one completion's update keeps the ratio in
64..1023 and moves it down by at most an eighth of it, rounded up (log 15), and up by at most a quarter of it and one
(R104, R105, R108). -/
def Obligations.RatiosLearnAndLend : Prop :=
  (∀ (ladder : List Rung) (k : Nat) (e : Rung), ladder[k]? = some e →
    (e.observed = true → effectiveRatio ladder k = e.ratio) ∧
    (e.observed = false → ∀ (j : Nat) (d : Rung), ladder[j]? = some d → d.observed = true →
      ((j < k ∧ ∀ (x : Nat) (c : Rung), j < x → x < k → ladder[x]? = some c → c.observed = false) ∨
        (k < j ∧ ∀ (x : Nat) (c : Rung), x < j → ladder[x]? = some c → c.observed = false)) →
      effectiveRatio ladder k = d.ratio) ∧
    ((∀ d ∈ ladder, d.observed = false) → effectiveRatio ladder k = 256)) ∧
  (∀ q total nominal : Nat, 64 ≤ q → q ≤ 1023 →
    learnedRatio q total nominal =
      (3 * q + max (max 64 (q / 2)) (min (min 1023 (2 * q)) (total * 256 / nominal)) + 2) / 4 ∧
    64 ≤ learnedRatio q total nominal ∧ learnedRatio q total nominal ≤ 1023 ∧
    q * 7 ≤ learnedRatio q total nominal * 8 + 7 ∧ learnedRatio q total nominal * 4 ≤ q * 5 + 4)

/-- The rung decision: the floor at share 0; in the low zone the least of the sustainable rung, the guard rung and the active
rung brought into floor..cap; else one rung up under target and up-hold, or held, or down to the sustainable rung. The
constraint is then applied, and the rung of the order lies in floor..cap and at most one above the active rung so brought.
A grant orders that rung, decided from the session's share and level at the grant, with the record of R145 and R146: the next
tag and segment, X the predicted size, the activity timeout armed, the retry mark after a failed attempt and the replacement
mark under EXACT (R114 to R118, R121 to R123, R145, R146). -/
def Obligations.RungDecision : Prop :=
  (∀ (i : SessionId) (k : SlotId) (s : State),
    let r := s.session i
    let rung := r.orderRung (r.rungChoice (s.share i) (s.level i) s.settings.fit s.settings.upHoldNeeded)
    s.decideRung i = rung ∧ s.newRecord i k =
      { tag := r.tagCounter + 1#8, segment := r.nextSegment, rung := rung, expected := r.predictedSize rung, received := 0
        state := .ordered, grantTime := s.partTime
        activityExpiry := s.partTime + BitVec.ofNat 32 s.settings.activityTimeout
        attempt := r.attempts, retryMark := decide (0 < r.attempts)
        replacementMark := (match r.rungLimit with
          | some (.exact _) => true
          | some (.atMost _) => false
          | none => false)
        slot := k }) ∧
  ∀ (r : Session) (share level fit need : Nat), r.floor ≤ r.cap →
    let a := max r.floor (min r.cap r.activeRung)
    let within := fun (limit k : Nat) => ∃ t, r.predictedTime share k = some t ∧ t ≤ limit
    let highest := fun (limit k : Nat) => r.floor ≤ k ∧ k ≤ r.cap ∧ (∀ j, r.floor ≤ j → j ≤ r.cap → within limit j → j ≤ k) ∧
      (within limit k ∨ (k = r.floor ∧ ∀ j, r.floor ≤ j → j ≤ r.cap → ¬ within limit j))
    let choice := r.rungChoice share level fit need
    ∃ tp guard, highest (r.segmentMs * fit / 256) tp ∧ highest (level / 2) guard ∧
      (share = 0 → choice = r.floor) ∧
      (0 < share → level < r.markL → choice = min tp (min guard a)) ∧
      (0 < share → r.markL ≤ level → a < tp → r.markT ≤ level ∧ need ≤ r.upHold → choice = a + 1) ∧
      (0 < share → r.markL ≤ level → a < tp → ¬ (r.markT ≤ level ∧ need ≤ r.upHold) → choice = a) ∧
      (0 < share → r.markL ≤ level → tp ≤ a → choice = tp) ∧
      (r.rungLimit = none → r.orderRung choice = choice) ∧
      (∀ k, r.rungLimit = some (.atMost k) → r.orderRung choice = min choice (max k r.floor)) ∧
      (∀ k, r.rungLimit = some (.exact k) → r.orderRung choice = min (max r.floor (min r.cap k)) (a + 1)) ∧
      r.floor ≤ r.orderRung choice ∧ r.orderRung choice ≤ r.cap ∧ r.orderRung choice ≤ a + 1

/-- The arbiter's decisions. Who wants a fetch and who is urgent by state and level; a grant does not yet treat as urgent an
entry whose low expiry is due and not taken, and the session becomes urgent when that expiry falls (R67, R142; log 7). What a
re-examination does: an entry joins or leaves, grants follow a joining or a freed slot, and then
preemption is considered for an urgent entry that joined or has just become urgent. Whom a grant takes: the urgent entry of
smallest level, nearest the head among equals, or the head when none is urgent, into the lowest free slot, as often as it
may. Whom a preemption takes and when: enabled, hold released, code not 7, no slot free, the entry urgent with its flag
clear; of the slots whose holder is not urgent and has received less than a quarter of X, the one granted last, the higher
number among equals. What it does: the flag is set, the victim's record ends with CANCEL for reason PREEMPT, its entry goes
to the head if it wants, and grants follow. A consideration that would have chosen the holder of a record which a DONE of this
part time has ended preempts nothing (R129, R130, R132 to R135, R138 to R142; how that holder is told is log 24, and that a
session already urgent that stalls is not considered again is log 25). -/
def Obligations.SelectionAndVictim : Prop :=
  ∀ s : State,
    (∀ i, let r := s.session i
      (s.wants i = true ↔ r.fetch = none ∧
        ((r.live = true ∧ r.nextSegment ≤ r.liveEdge) ∨
          (r.live = false ∧ ∃ l, r.lastSegment = some l ∧ r.nextSegment ≤ l)) ∧
        (r.state = .priming ∨ r.state = .stalled ∨
          ((r.state = .primed ∨ r.state = .playing ∨ r.state = .paused) ∧ s.level i + r.segmentMs ≤ r.markH))) ∧
      (s.urgent i = true ↔ r.state = .priming ∨ r.state = .stalled ∨ (r.state = .playing ∧ s.level i < r.markL)) ∧
      (s.toldUrgent i = true ↔ s.urgent i = true ∧ ¬ (r.state = .playing ∧ r.lowExpiry = some s.partTime)) ∧
      (s.isQueued i = true ↔ ∃ e ∈ s.arbiter.queue, e.session = i)) ∧
    (∀ (i : SessionId) (wasUrgent freed : Bool),
      let queued := fun (q : List QueueEntry) => { s with arbiter := { s.arbiter with queue := q } }
      let joined := State.grantAll (queued (s.arbiter.queue ++ [⟨i, false⟩]))
      let left := if s.wants i = true then s else queued (s.arbiter.queue.filter fun e => e.session != i)
      let stayed := if freed then left.grantAll else left
      (s.wants i = true → s.isQueued i = false →
        s.reexamine i wasUrgent freed = if joined.urgent i then joined.considerPreemption i else joined) ∧
      (¬ (s.wants i = true ∧ s.isQueued i = false) → s.reexamine i wasUrgent freed =
        if stayed.toldUrgent i && !wasUrgent then stayed.considerPreemption i else stayed)) ∧
    (s.arbiter.queue = [] → s.selectEntry = none) ∧
    (∀ (e : QueueEntry) (rest : List QueueEntry), s.arbiter.queue = e :: rest →
      (∀ d ∈ s.arbiter.queue, s.toldUrgent d.session = false) → s.selectEntry = some e.session) ∧
    (∀ (before after : List QueueEntry) (e : QueueEntry), s.arbiter.queue = before ++ e :: after →
      s.toldUrgent e.session = true →
      (∀ d ∈ before, s.toldUrgent d.session = true → s.level e.session < s.level d.session) →
      (∀ d ∈ after, s.toldUrgent d.session = true → s.level e.session ≤ s.level d.session) →
      s.selectEntry = some e.session) ∧
    (∀ (k : SlotId) (i : SessionId), s.arbiter.hold = false → s.contention.accepted ≠ 7#3 →
      k.toNat < s.settings.slotCount → s.arbiter.slots.get k = none →
      (∀ j : SlotId, j.toNat < k.toNat → s.arbiter.slots.get j ≠ none) → s.selectEntry = some i →
      let t := { s with
        sessions := s.sessions.set i { s.session i with
          tagCounter := (s.session i).tagCounter + 1#8
          rungLimit := none
          fetch := some (State.newRecord
            { s with arbiter := { s.arbiter with queue := s.arbiter.queue.filter fun e => e.session != i } } i k) }
        arbiter := { s.arbiter with
          queue := s.arbiter.queue.filter fun e => e.session != i
          slots := s.arbiter.slots.set k (some ⟨i, s.partTime⟩) }
        link := { s.link with notices := s.link.notices.set i { s.notices i with order := true, cancel := none } } }
      s.grantAll = t.grantAll) ∧
    (NothingToGrant s → s.grantAll = s) ∧
    (∀ qualifies : SlotId → Prop,
      (∀ k, qualifies k ↔ k.toNat < s.settings.slotCount ∧ ∃ (h : SlotHolder) (f : FetchRecord),
        s.arbiter.slots.get k = some h ∧ s.urgent h.session = false ∧ (s.session h.session).fetch = some f ∧
        f.received * 4 < f.expected) →
      ((∀ k, ¬ qualifies k) → s.victimSlot = none) ∧
      (∀ (k : SlotId) (h : SlotHolder), qualifies k → s.arbiter.slots.get k = some h →
        (∀ (j : SlotId) (g : SlotHolder), qualifies j → s.arbiter.slots.get j = some g → j ≠ k →
          interval h.grantTime s.partTime < interval g.grantTime s.partTime ∨
          (interval h.grantTime s.partTime = interval g.grantTime s.partTime ∧ j.toNat < k.toNat)) →
        s.victimSlot = some k)) ∧
    (∀ i : SessionId,
      let may := s.isQueued i = true ∧ s.urgent i = true ∧ s.settings.preemption = true ∧ s.arbiter.hold = false ∧
        s.contention.accepted ≠ 7#3 ∧ (∀ k : SlotId, k.toNat < s.settings.slotCount → s.arbiter.slots.get k ≠ none) ∧
        (∀ e ∈ s.arbiter.queue, e.session = i → e.preemptionUsed = false) ∧ ¬ s.doneForestalls
      (¬ may ∨ s.victimSlot = none → s.considerPreemption i = s) ∧
      ∀ (k : SlotId) (h : SlotHolder), may → s.victimSlot = some k → s.arbiter.slots.get k = some h →
        let e := State.endRecord { s with arbiter := { s.arbiter with queue := s.arbiter.queue.map fun d =>
          if d.session = i then { d with preemptionUsed := true } else d } } h.session (some .preempt)
        s.considerPreemption i = State.grantAll (if e.wants h.session = true then
          { e with arbiter := { e.arbiter with queue := ⟨h.session, false⟩ :: e.arbiter.queue } } else e)) ∧
    ((s.arbiter.queue.map (·.session)).Nodup → ∃ order : List SessionId,
      order.Perm ((s.arbiter.queue.map (·.session)).filter s.urgent) ∧
      order.Pairwise (fun i j => s.level i < s.level j ∨ (s.level i = s.level j ∧
        (s.arbiter.queue.map (·.session)).idxOf i < (s.arbiter.queue.map (·.session)).idxOf j)) ∧
      s.considerAll = order.foldl State.considerPreemption s)

/-! ### Invariants that every step keeps -/

/-- The reply queue holds at most 4, no reply waits for an idle transmitter, nothing is in transmission until a first reply
has begun, so that the first frame is a reply, a reply in transmission is the frame of the queue's head, and a gap expiry is
armed exactly while a frame is being received; every step keeps it (R4, R5, R10, R12, R19, R180; that R180 holds for a LINK too
is log 22). -/
def Obligations.LinkInvariantKept : Prop :=
  keptByStep fun s => RepliesFit s ∧ TransmitterServes s ∧ GapMatchesFramer s

/-- While NRST is low every piece of state is at its pin-reset value; every step keeps it (R180). The values of the line rate,
of the window's length and of the busy reference time while NRST is low are the model's (logs 8 and 9). -/
def Obligations.HeldWhileLowKept : Prop := keptByStep HeldWhileLow

/-- Sessions wait or fetch, never both, each once; the slots and the fetch records match one to one inside the pool; and the
meter's count is the number of ACTIVE records; every step keeps it (R56, R82, R87, R127, R131, R143). -/
def Obligations.SlotsAndRecordsKept : Prop := keptByStep fun s => SlotsConsistent s ∧ ActiveCountMatches s

/-- At the end of every event no slot is free, or nobody waits, or the hold is in force, or the code is 7 (R135); and a
session waits exactly while it wants a fetch, but for a refill expiry that is due and has not been taken (R129, R130, R131).
The premises beside them rule out settings, slots, marks, levels and expiries that no run reaches. -/
def Obligations.NothingLeftToGrantKept : Prop :=
  (keptByStep fun s => NothingToGrant s ∧ SlotsConsistent s ∧ s.settings.inRange) ∧
  (keptByStep fun s => QueueIsWanting s ∧ ExpiriesInTime s ∧ ExpiriesMatch s ∧ OpenInOrder s ∧ SlotsConsistent s ∧
    CountsInRange s)

/-- A record carries the session's tag counter and next segment for as long as it exists; every step keeps it
(R54, R143, R144). -/
def Obligations.RecordsNameSegmentKept : Prop := keptByStep RecordMatchesSession

/-- The level expiries stand as R62 to R64 give them from the stored level, the reference time and the state, but for a low
or refill expiry that has fallen, which is clear only once its time has come, and none has been passed; every step keeps it
(R27, R65, R67, R68). The premises beside the second part rule out marks, records and levels that no run reaches. -/
def Obligations.LevelExpiriesKept : Prop :=
  keptByStep ExpiriesMatch ∧
  keptByStep fun s => ExpiriesInTime s ∧ ExpiriesMatch s ∧ OpenInOrder s ∧ SlotsConsistent s ∧ CountsInRange s

/-- Ratios stay in 64..1023; the settings, levels, counts, ages, the ring and the averages stay in their ranges; and, with the
records, slots and expiries consistent, the marks, ladder and limits of an open session stay in their relations; every step
keeps each of the three (R39, R41, R60, R66, R85, R90, R93, R105, R125, R159, R162). -/
def Obligations.RangesKept : Prop :=
  keptByStep RatiosInRange ∧ keptByStep CountsInRange ∧
  keptByStep fun s => OpenInOrder s ∧ ExpiriesMatch s ∧ SlotsConsistent s

/-- Every invariant above holds of the state that a machine starts in (R36, R180; the values of logs 1, 8 and 9 are the
model's). -/
def Obligations.InvariantsHoldAtReset : Prop :=
  let s := State.reset
  RepliesFit s ∧ TransmitterServes s ∧ GapMatchesFramer s ∧ HeldWhileLow s ∧ SlotsConsistent s ∧ ActiveCountMatches s ∧
  NothingToGrant s ∧ RecordMatchesSession s ∧ ExpiriesMatch s ∧ ExpiriesInTime s ∧ QueueIsWanting s ∧
  RatiosInRange s ∧ OpenInOrder s ∧ CountsInRange s

end Statements
end

