-- ==== Sys2Proof/Laws/State.lean ====
section
/-! SUPPORT. Reading back what one update of the state writes: the four-fold records, one block at a time. -/

namespace Sys2Proof

/-! ### Four -/

@[simp] theorem Four.get_const {α : Type} (a : α) (i : Idx4) : (Four.const a).get i = a := by cases i <;> rfl

@[simp] theorem Four.get_ofFn {α : Type} (f : Idx4 → α) (i : Idx4) : (Four.ofFn f).get i = f i := by cases i <;> rfl

@[simp] theorem Four.get_set_same {α : Type} (f : Four α) (i : Idx4) (a : α) : (f.set i a).get i = a := by
  cases i <;> rfl

theorem Four.get_set_other {α : Type} (f : Four α) {i j : Idx4} (a : α) (h : j ≠ i) : (f.set i a).get j = f.get j := by
  cases i <;> cases j <;> first | rfl | exact absurd rfl h

theorem Four.get_set {α : Type} (f : Four α) (i j : Idx4) (a : α) :
    (f.set i a).get j = if j = i then a else f.get j := by
  cases i <;> cases j <;> rfl

@[simp] theorem Four.set_get {α : Type} (f : Four α) (i : Idx4) : f.set i (f.get i) = f := by cases i <;> rfl

@[simp] theorem Four.set_set {α : Type} (f : Four α) (i : Idx4) (a b : α) : (f.set i a).set i b = f.set i b := by
  cases i <;> rfl

theorem Four.ext_get {α : Type} {f g : Four α} (h : ∀ i, f.get i = g.get i) : f = g := by
  cases f; cases g
  have h0 := h .i0; have h1 := h .i1; have h2 := h .i2; have h3 := h .i3
  simp_all [Four.get]

theorem Idx4.mem_all (i : Idx4) : i ∈ Idx4.all := by cases i <;> decide

theorem Idx4.nodup_all : Idx4.all.Nodup := by decide

/-- A claim about every index, read at the four of them. -/
theorem Idx4.forall_iff {p : Idx4 → Prop} : (∀ i, p i) ↔ p .i0 ∧ p .i1 ∧ p .i2 ∧ p .i3 :=
  ⟨fun h => ⟨h _, h _, h _, h _⟩, fun ⟨a, b, c, d⟩ i => by cases i <;> assumption⟩

namespace Machine

/-! ### One session's record -/

@[simp] theorem State.session_setSession_same (s : State) (i : SessionId) (r : Session) :
    (s.setSession i r).session i = r := Four.get_set_same _ _ _

theorem State.session_setSession (s : State) (i j : SessionId) (r : Session) :
    (s.setSession i r).session j = if j = i then r else s.session j := Four.get_set _ _ _ _

theorem State.session_setSession_other (s : State) {i j : SessionId} (r : Session) (h : j ≠ i) :
    (s.setSession i r).session j = s.session j := Four.get_set_other _ _ h

@[simp] theorem State.setSession_setSession (s : State) (i : SessionId) (r r' : Session) :
    (s.setSession i r).setSession i r' = s.setSession i r' := by
  simp [State.setSession]

@[simp] theorem State.setSession_session (s : State) (i : SessionId) : s.setSession i (s.session i) = s := by
  simp [State.setSession, State.session]

@[simp] theorem State.session_updSession_same (s : State) (i : SessionId) (f : Session → Session) :
    (s.updSession i f).session i = f (s.session i) := State.session_setSession_same _ _ _

theorem State.session_updSession (s : State) (i j : SessionId) (f : Session → Session) :
    (s.updSession i f).session j = if j = i then f (s.session i) else s.session j := State.session_setSession _ _ _ _

@[simp] theorem State.setSession_nrstHigh (s : State) (i : SessionId) (r : Session) : (s.setSession i r).nrstHigh = s.nrstHigh := rfl
@[simp] theorem State.setSession_partTime (s : State) (i : SessionId) (r : Session) : (s.setSession i r).partTime = s.partTime := rfl
@[simp] theorem State.setSession_link (s : State) (i : SessionId) (r : Session) : (s.setSession i r).link = s.link := rfl
@[simp] theorem State.setSession_contention (s : State) (i : SessionId) (r : Session) : (s.setSession i r).contention = s.contention := rfl
@[simp] theorem State.setSession_meter (s : State) (i : SessionId) (r : Session) : (s.setSession i r).meter = s.meter := rfl
@[simp] theorem State.setSession_arbiter (s : State) (i : SessionId) (r : Session) : (s.setSession i r).arbiter = s.arbiter := rfl
@[simp] theorem State.setSession_settings (s : State) (i : SessionId) (r : Session) : (s.setSession i r).settings = s.settings := rfl
@[simp] theorem State.setSession_pending (s : State) (i : SessionId) (r : Session) : (s.setSession i r).pending = s.pending := rfl
@[simp] theorem State.setSession_notices (s : State) (i j : SessionId) (r : Session) : (s.setSession i r).notices j = s.notices j := rfl

@[simp] theorem State.updSession_nrstHigh (s : State) (i : SessionId) (f : Session → Session) : (s.updSession i f).nrstHigh = s.nrstHigh := rfl
@[simp] theorem State.updSession_partTime (s : State) (i : SessionId) (f : Session → Session) : (s.updSession i f).partTime = s.partTime := rfl
@[simp] theorem State.updSession_link (s : State) (i : SessionId) (f : Session → Session) : (s.updSession i f).link = s.link := rfl
@[simp] theorem State.updSession_contention (s : State) (i : SessionId) (f : Session → Session) : (s.updSession i f).contention = s.contention := rfl
@[simp] theorem State.updSession_meter (s : State) (i : SessionId) (f : Session → Session) : (s.updSession i f).meter = s.meter := rfl
@[simp] theorem State.updSession_arbiter (s : State) (i : SessionId) (f : Session → Session) : (s.updSession i f).arbiter = s.arbiter := rfl
@[simp] theorem State.updSession_settings (s : State) (i : SessionId) (f : Session → Session) : (s.updSession i f).settings = s.settings := rfl
@[simp] theorem State.updSession_pending (s : State) (i : SessionId) (f : Session → Session) : (s.updSession i f).pending = s.pending := rfl
@[simp] theorem State.updSession_notices (s : State) (i j : SessionId) (f : Session → Session) : (s.updSession i f).notices j = s.notices j := rfl

/-! ### The Control Link Unit -/

@[simp] theorem State.setLink_link (s : State) (l : ControlLink) : (s.setLink l).link = l := rfl
@[simp] theorem State.setLink_nrstHigh (s : State) (l : ControlLink) : (s.setLink l).nrstHigh = s.nrstHigh := rfl
@[simp] theorem State.setLink_partTime (s : State) (l : ControlLink) : (s.setLink l).partTime = s.partTime := rfl
@[simp] theorem State.setLink_contention (s : State) (l : ControlLink) : (s.setLink l).contention = s.contention := rfl
@[simp] theorem State.setLink_session (s : State) (l : ControlLink) (i : SessionId) : (s.setLink l).session i = s.session i := rfl
@[simp] theorem State.setLink_meter (s : State) (l : ControlLink) : (s.setLink l).meter = s.meter := rfl
@[simp] theorem State.setLink_arbiter (s : State) (l : ControlLink) : (s.setLink l).arbiter = s.arbiter := rfl
@[simp] theorem State.setLink_settings (s : State) (l : ControlLink) : (s.setLink l).settings = s.settings := rfl
@[simp] theorem State.setLink_pending (s : State) (l : ControlLink) : (s.setLink l).pending = s.pending := rfl
@[simp] theorem State.setLink_setLink (s : State) (l l' : ControlLink) : (s.setLink l).setLink l' = s.setLink l' := rfl

@[simp] theorem State.notices_updNotices_same (s : State) (i : SessionId) (f : NoticeSet → NoticeSet) :
    (s.updNotices i f).notices i = f (s.notices i) := Four.get_set_same _ _ _

theorem State.notices_updNotices (s : State) (i j : SessionId) (f : NoticeSet → NoticeSet) :
    (s.updNotices i f).notices j = if j = i then f (s.notices i) else s.notices j := Four.get_set _ _ _ _

@[simp] theorem State.updNotices_nrstHigh (s : State) (i : SessionId) (f : NoticeSet → NoticeSet) : (s.updNotices i f).nrstHigh = s.nrstHigh := rfl
@[simp] theorem State.updNotices_partTime (s : State) (i : SessionId) (f : NoticeSet → NoticeSet) : (s.updNotices i f).partTime = s.partTime := rfl
@[simp] theorem State.updNotices_contention (s : State) (i : SessionId) (f : NoticeSet → NoticeSet) : (s.updNotices i f).contention = s.contention := rfl
@[simp] theorem State.updNotices_session (s : State) (i j : SessionId) (f : NoticeSet → NoticeSet) : (s.updNotices i f).session j = s.session j := rfl
@[simp] theorem State.updNotices_meter (s : State) (i : SessionId) (f : NoticeSet → NoticeSet) : (s.updNotices i f).meter = s.meter := rfl
@[simp] theorem State.updNotices_arbiter (s : State) (i : SessionId) (f : NoticeSet → NoticeSet) : (s.updNotices i f).arbiter = s.arbiter := rfl
@[simp] theorem State.updNotices_settings (s : State) (i : SessionId) (f : NoticeSet → NoticeSet) : (s.updNotices i f).settings = s.settings := rfl
@[simp] theorem State.updNotices_pending (s : State) (i : SessionId) (f : NoticeSet → NoticeSet) : (s.updNotices i f).pending = s.pending := rfl
@[simp] theorem State.updNotices_link (s : State) (i : SessionId) (f : NoticeSet → NoticeSet) :
    (s.updNotices i f).link = { s.link with notices := s.link.notices.set i (f (s.notices i)) } := rfl

/-! ### The other blocks -/

@[simp] theorem State.setMeter_meter (s : State) (m : LinkMeter) : (s.setMeter m).meter = m := rfl
@[simp] theorem State.setMeter_nrstHigh (s : State) (m : LinkMeter) : (s.setMeter m).nrstHigh = s.nrstHigh := rfl
@[simp] theorem State.setMeter_partTime (s : State) (m : LinkMeter) : (s.setMeter m).partTime = s.partTime := rfl
@[simp] theorem State.setMeter_link (s : State) (m : LinkMeter) : (s.setMeter m).link = s.link := rfl
@[simp] theorem State.setMeter_contention (s : State) (m : LinkMeter) : (s.setMeter m).contention = s.contention := rfl
@[simp] theorem State.setMeter_session (s : State) (m : LinkMeter) (i : SessionId) : (s.setMeter m).session i = s.session i := rfl
@[simp] theorem State.setMeter_arbiter (s : State) (m : LinkMeter) : (s.setMeter m).arbiter = s.arbiter := rfl
@[simp] theorem State.setMeter_settings (s : State) (m : LinkMeter) : (s.setMeter m).settings = s.settings := rfl
@[simp] theorem State.setMeter_pending (s : State) (m : LinkMeter) : (s.setMeter m).pending = s.pending := rfl
@[simp] theorem State.setMeter_notices (s : State) (m : LinkMeter) (i : SessionId) : (s.setMeter m).notices i = s.notices i := rfl

@[simp] theorem State.setArbiter_arbiter (s : State) (a : SlotArbiter) : (s.setArbiter a).arbiter = a := rfl
@[simp] theorem State.setArbiter_nrstHigh (s : State) (a : SlotArbiter) : (s.setArbiter a).nrstHigh = s.nrstHigh := rfl
@[simp] theorem State.setArbiter_partTime (s : State) (a : SlotArbiter) : (s.setArbiter a).partTime = s.partTime := rfl
@[simp] theorem State.setArbiter_link (s : State) (a : SlotArbiter) : (s.setArbiter a).link = s.link := rfl
@[simp] theorem State.setArbiter_contention (s : State) (a : SlotArbiter) : (s.setArbiter a).contention = s.contention := rfl
@[simp] theorem State.setArbiter_session (s : State) (a : SlotArbiter) (i : SessionId) : (s.setArbiter a).session i = s.session i := rfl
@[simp] theorem State.setArbiter_meter (s : State) (a : SlotArbiter) : (s.setArbiter a).meter = s.meter := rfl
@[simp] theorem State.setArbiter_settings (s : State) (a : SlotArbiter) : (s.setArbiter a).settings = s.settings := rfl
@[simp] theorem State.setArbiter_pending (s : State) (a : SlotArbiter) : (s.setArbiter a).pending = s.pending := rfl
@[simp] theorem State.setArbiter_notices (s : State) (a : SlotArbiter) (i : SessionId) : (s.setArbiter a).notices i = s.notices i := rfl

@[simp] theorem State.setContention_contention (s : State) (c : ContentionInput) : (s.setContention c).contention = c := rfl
@[simp] theorem State.setContention_nrstHigh (s : State) (c : ContentionInput) : (s.setContention c).nrstHigh = s.nrstHigh := rfl
@[simp] theorem State.setContention_partTime (s : State) (c : ContentionInput) : (s.setContention c).partTime = s.partTime := rfl
@[simp] theorem State.setContention_link (s : State) (c : ContentionInput) : (s.setContention c).link = s.link := rfl
@[simp] theorem State.setContention_session (s : State) (c : ContentionInput) (i : SessionId) : (s.setContention c).session i = s.session i := rfl
@[simp] theorem State.setContention_meter (s : State) (c : ContentionInput) : (s.setContention c).meter = s.meter := rfl
@[simp] theorem State.setContention_arbiter (s : State) (c : ContentionInput) : (s.setContention c).arbiter = s.arbiter := rfl
@[simp] theorem State.setContention_settings (s : State) (c : ContentionInput) : (s.setContention c).settings = s.settings := rfl
@[simp] theorem State.setContention_pending (s : State) (c : ContentionInput) : (s.setContention c).pending = s.pending := rfl

@[simp] theorem State.setSettings_settings (s : State) (c : Settings) : (s.setSettings c).settings = c := rfl
@[simp] theorem State.setSettings_link (s : State) (c : Settings) : (s.setSettings c).link = s.link := rfl
@[simp] theorem State.setSettings_meter (s : State) (c : Settings) : (s.setSettings c).meter = s.meter := rfl
@[simp] theorem State.setSettings_arbiter (s : State) (c : Settings) : (s.setSettings c).arbiter = s.arbiter := rfl
@[simp] theorem State.setSettings_session (s : State) (c : Settings) (i : SessionId) : (s.setSettings c).session i = s.session i := rfl

/-! ### Writing the level and rearming (R61, R65) -/

@[simp] theorem Session.rearm_state (r : Session) : r.rearm.state = r.state := rfl
@[simp] theorem Session.rearm_storedLevel (r : Session) : r.rearm.storedLevel = r.storedLevel := rfl
@[simp] theorem Session.rearm_refTime (r : Session) : r.rearm.refTime = r.refTime := rfl
@[simp] theorem Session.rearm_fetch (r : Session) : r.rearm.fetch = r.fetch := rfl
@[simp] theorem Session.rearm_ladder (r : Session) : r.rearm.ladder = r.ladder := rfl
@[simp] theorem Session.rearm_stallExpiry (r : Session) : r.rearm.stallExpiry = r.stallDue := rfl
@[simp] theorem Session.rearm_lowExpiry (r : Session) : r.rearm.lowExpiry = r.lowDue := rfl
@[simp] theorem Session.rearm_refillExpiry (r : Session) : r.rearm.refillExpiry = r.refillDue := rfl
@[simp] theorem Session.rearm_rearm (r : Session) : r.rearm.rearm = r.rearm := rfl

@[simp] theorem Session.writeLevel_state (r : Session) (now : PartTime) (b : Nat) : (r.writeLevel now b).state = r.state := rfl
@[simp] theorem Session.writeLevel_storedLevel (r : Session) (now : PartTime) (b : Nat) : (r.writeLevel now b).storedLevel = b := rfl
@[simp] theorem Session.writeLevel_refTime (r : Session) (now : PartTime) (b : Nat) : (r.writeLevel now b).refTime = now := rfl
@[simp] theorem Session.writeLevel_fetch (r : Session) (now : PartTime) (b : Nat) : (r.writeLevel now b).fetch = r.fetch := rfl
@[simp] theorem Session.writeLevel_ladder (r : Session) (now : PartTime) (b : Nat) : (r.writeLevel now b).ladder = r.ladder := rfl

/-- The level just written is the level at that moment (R61). -/
theorem Session.level_writeLevel (r : Session) (now : PartTime) (b : Nat) : (r.writeLevel now b).level now = b := by
  simp [Session.level, Session.writeLevel, interval]

/-- A session outside PLAYING keeps its level (R60). -/
theorem Session.level_of_not_playing (r : Session) (now : PartTime) (h : r.state ≠ .playing) : r.level now = r.storedLevel := by
  simp [Session.level, h]

end Machine
end Sys2Proof
end

