-- ==== Sys2Proof/Laws/Arbiter.lean ====
section
/-! SUPPORT. What the Slot Arbiter's acts may touch: granting and preempting change of each session its record, tag counter
and constraint, of each pending set ORDER and CANCEL, the ACTIVE count and the stored busy, the slots and the queue, and
nothing else (R128, R130, R135, R140, R145); and the ending path, field by field (R157). -/

namespace Sys2Proof.Machine

open Sys2Proof

/-! ### ArbiterOnly composes -/

theorem ArbiterOnly.refl (s : State) : ArbiterOnly s s :=
  ⟨rfl, rfl, rfl, rfl, rfl, rfl, rfl, rfl, rfl, fun _ => rfl, fun _ => rfl, fun _ => .inl rfl, fun _ _ h => .inl ⟨h, rfl⟩,
    fun _ => .inl ⟨rfl, rfl⟩⟩

/-! What an act of the arbiter leaves as it was, field by field. -/

theorem ArbiterOnly.framer {s t : State} (h : ArbiterOnly s t) : t.link.framer = s.link.framer := by rw [h.link]
theorem ArbiterOnly.gap {s t : State} (h : ArbiterOnly s t) : t.link.gap = s.link.gap := by rw [h.link]
theorem ArbiterOnly.replies {s t : State} (h : ArbiterOnly s t) : t.link.replies = s.link.replies := by rw [h.link]
theorem ArbiterOnly.tx {s t : State} (h : ArbiterOnly s t) : t.link.tx = s.link.tx := by rw [h.link]
theorem ArbiterOnly.state {s t : State} (h : ArbiterOnly s t) (i : SessionId) : (t.session i).state = (s.session i).state := by
  rw [h.session i]
theorem ArbiterOnly.level {s t : State} (h : ArbiterOnly s t) (i : SessionId) : t.level i = s.level i := by
  simp only [State.level, Session.level, h.partTime]
  rw [h.session i]
theorem ArbiterOnly.estimate {s t : State} (h : ArbiterOnly s t) : t.estimate = s.estimate := by
  simp only [State.estimate, State.baseEstimate, h.settings, h.contention]
  rw [h.meter]

/-- A session's own part of the order: it reads neither the record nor the tag counter nor, for the choice, the
constraint. -/
theorem ArbiterOnly.orderRung {s t : State} (h : ArbiterOnly s t) (i : SessionId) (limit : Option RungLimit) (k : Nat) :
    ({ t.session i with rungLimit := limit } : Session).orderRung k =
      ({ s.session i with rungLimit := limit } : Session).orderRung k := by
  rw [h.session i]; rfl
theorem ArbiterOnly.rungChoice {s t : State} (h : ArbiterOnly s t) (i : SessionId) (share level fit need : Nat) :
    (t.session i).rungChoice share level fit need = (s.session i).rungChoice share level fit need := by
  rw [h.session i]; rfl

/-- A record created later in an event is one that its beginning allows. -/
theorem ArbiterOnly.granted {s t : State} (h : ArbiterOnly s t) {i : SessionId} {tag : Byte} {f : FetchRecord}
    (g : t.granted i tag f) : s.granted i tag f := by
  obtain ⟨g1, g2, g3, g4, g5, g6, g7, g8, g9, g10, limit, wsum, hl, hm, hr⟩ := g
  have hs := h.session i
  refine ⟨g1, g2.trans (by rw [hs]), g3.trans (by rw [hs]; rfl), g4, g5, g6.trans h.partTime, ?_, g8.trans (by rw [hs]),
    g9.trans (by rw [hs]), ?_, limit, wsum, ?_, hm, ?_⟩
  · rw [g7, h.partTime, h.settings]
  · rw [← h.settings]; exact g10
  · rcases hl with e | e
    · rcases h.limit i with e' | e'
      · exact .inl (e.trans e')
      · exact .inr (e.trans e')
    · exact .inr e
  · rw [hr, h.orderRung, h.rungChoice, h.level, h.settings, h.estimate, show (t.session i).weight = (s.session i).weight by rw [hs]]

theorem ArbiterOnly.trans {s t : State} {u : State} (h : ArbiterOnly s t) (k : ArbiterOnly t u) : ArbiterOnly s u where
  nrstHigh := k.nrstHigh.trans h.nrstHigh
  partTime := k.partTime.trans h.partTime
  contention := k.contention.trans h.contention
  settings := k.settings.trans h.settings
  pending := k.pending.trans h.pending
  hold := k.hold.trans h.hold
  doneGrants := k.doneGrants.trans h.doneGrants
  meter := k.meter.trans (by rw [h.meter])
  link := k.link.trans (by rw [h.link])
  notices := fun i => (k.notices i).trans (by rw [h.notices i])
  session := fun i => (k.session i).trans (by rw [h.session i])
  limit := fun i => by
    rcases k.limit i with e | e
    · rcases h.limit i with e' | e'
      · exact .inl (e.trans e')
      · exact .inr (e.trans e')
    · exact .inr e
  record := fun i f hf => by
    rcases k.record i f hf with ⟨e, et⟩ | g
    · rw [et]; exact h.record i f e
    · exact .inr (h.granted g)
  notice := fun i => by
    rcases k.notice i with ⟨kf, kn⟩ | kg | ⟨kf, ko, kc⟩
    · rw [kf, kn]; exact h.notice i
    · exact .inr (.inl kg)
    · refine .inr (.inr ⟨kf, ko, ?_⟩)
      rcases kc with kc | kc | ⟨f, hf, ho, hc, kc⟩
      · exact .inl kc
      · rw [kc]
        rcases h.notice i with ⟨_, hn⟩ | ⟨_, _, hn⟩ | ⟨_, _, hn⟩
        · exact .inr (.inl (by rw [hn]))
        · exact .inl hn
        · exact hn
      · rcases h.notice i with ⟨hf', hn⟩ | ⟨_, hn, _⟩ | ⟨hf', _, _⟩
        · exact .inr (.inr ⟨f, hf' ▸ hf, hn ▸ ho, hn ▸ hc, kc⟩)
        · rw [hn] at ho; exact absurd ho (by decide)
        · rw [hf'] at hf; exact absurd hf (by simp)

/-- A choice of two acts. -/
theorem ArbiterOnly.ite {c : Prop} [Decidable c] {s t u : State} (h : ArbiterOnly s t) (k : ArbiterOnly s u) :
    ArbiterOnly s (if c then t else u) := by split <;> assumption

/-- A fold of acts, each of which touches no more than the arbiter may. -/
theorem ArbiterOnly.foldl {α : Type} {f : State → α → State} (h : ∀ t a, ArbiterOnly t (f t a)) (l : List α) (s : State) :
    ArbiterOnly s (l.foldl f s) := by
  induction l generalizing s with
  | nil => exact .refl s
  | cons a l ih => exact (h s a).trans (ih _)

/-! ### The acts -/

/-- A change of the queue or the slots alone. -/
theorem ArbiterOnly.setArbiter (s : State) (a : SlotArbiter) (h : a.hold = s.arbiter.hold)
    (hd : a.doneGrants = s.arbiter.doneGrants) : ArbiterOnly s (s.setArbiter a) :=
  ⟨rfl, rfl, rfl, rfl, rfl, h, hd, rfl, rfl, fun _ => rfl, fun _ => rfl, fun _ => .inl rfl, fun _ _ h => .inl ⟨h, rfl⟩,
    fun _ => .inl ⟨rfl, rfl⟩⟩

theorem State.appendEntry_only (s : State) (i : SessionId) : ArbiterOnly s (s.appendEntry i) := .setArbiter _ _ rfl rfl
theorem State.prependEntry_only (s : State) (i : SessionId) : ArbiterOnly s (s.prependEntry i) := .setArbiter _ _ rfl rfl
theorem State.removeEntry_only (s : State) (i : SessionId) : ArbiterOnly s (s.removeEntry i) := .setArbiter _ _ rfl rfl
theorem State.markPreemptionUsed_only (s : State) (i : SessionId) : ArbiterOnly s (s.markPreemptionUsed i) :=
  .setArbiter _ _ rfl rfl
theorem State.appendIfJoins_only (s : State) (i : SessionId) : ArbiterOnly s (s.appendIfJoins i) :=
  .ite (State.appendEntry_only _ _) (.refl _)

/-- A free slot is one of the pool (R127, R128). -/
theorem State.freeSlot_inPool {s : State} {k : SlotId} (h : s.freeSlot = some k) : k.toNat < s.settings.slotCount := by
  have := List.mem_of_find?_eq_some h
  simpa [State.pool] using (List.mem_filter.mp this).2

/-- A grant of a session into a free slot (R121, R128, R145). -/
theorem State.createRecord_only (s : State) (i : SessionId) (k : SlotId) (hk : k.toNat < s.settings.slotCount) :
    ArbiterOnly s (s.createRecord i k) where
  nrstHigh := rfl
  partTime := rfl
  contention := rfl
  settings := rfl
  pending := rfl
  hold := rfl
  doneGrants := rfl
  meter := rfl
  link := rfl
  notices := fun j => by
    simp only [State.createRecord, State.raiseOrder, State.setSlot, State.notices_updNotices]
    split
    · next hj => subst hj; rfl
    · rfl
  session := fun j => by
    simp only [State.createRecord, State.raiseOrder, State.setSlot, State.updNotices_session, State.setArbiter_session,
      State.session_updSession]
    split
    · next hj => subst hj; rfl
    · rfl
  limit := fun j => by
    simp only [State.createRecord, State.raiseOrder, State.setSlot, State.updNotices_session, State.setArbiter_session,
      State.session_updSession]
    split
    · exact .inr rfl
    · exact .inl rfl
  record := fun j f hf => by
    simp only [State.createRecord, State.raiseOrder, State.setSlot, State.updNotices_session, State.setArbiter_session,
      State.session_updSession] at hf ⊢
    split at hf
    · next hj =>
      subst hj
      cases hf
      exact .inr ⟨by rw [if_pos rfl]; rfl, rfl, rfl, rfl, rfl, rfl, rfl, rfl, rfl, hk, (s.session j).rungLimit, s.weightSum j,
        .inl rfl, rfl, rfl⟩
    · next hj => exact .inl ⟨hf, by rw [if_neg hj]⟩
  notice := fun j => by
    simp only [State.createRecord, State.raiseOrder, State.setSlot, State.updNotices_session, State.setArbiter_session,
      State.session_updSession, State.notices_updNotices]
    split
    · exact .inr (.inl ⟨by simp, rfl, rfl⟩)
    · exact .inl ⟨rfl, rfl⟩

/-- The ending path field by field (R157): what it leaves of a session that holds a record. -/
theorem State.endRecord_eq (s : State) (i : SessionId) (why : Option CancelReason) (f : FetchRecord)
    (h : (s.session i).fetch = some f) :
    s.endRecord i why = { s with
      sessions := s.sessions.set i { s.session i with fetch := none }
      link := { s.link with notices := s.link.notices.set i ((s.notices i).afterEnding f.tag why) }
      meter := if f.state = .active then s.meter.activeDown s.partTime else s.meter
      arbiter := { s.arbiter with slots := s.arbiter.slots.set f.slot none } } := by
  have h1 : (if (s.notices i).order then s.withdrawOrder i
      else match why with
        | some w => s.raiseCancel i f.tag w
        | none => s) = s.updNotices i fun n => n.afterEnding f.tag why := by
    by_cases ho : (s.notices i).order = true
    · rw [if_pos ho]
      simp only [State.withdrawOrder, State.updNotices, NoticeSet.afterEnding, ho, if_true]
    · rw [if_neg ho]
      cases why with
      | none =>
        have hc : (s.notices i).afterEnding f.tag none = s.notices i := by
          rw [NoticeSet.afterEnding, if_neg ho]
          cases s.notices i with
          | mk c _ _ _ _ _ => cases c <;> rfl
        have hn : s.link.notices.set i (s.notices i) = s.link.notices := Four.set_get _ _
        simp only [State.updNotices, hc, hn]
        rfl
      | some w => simp only [State.raiseCancel, State.updNotices, NoticeSet.afterEnding, if_neg ho, Option.map_some]
  have h2 : s.endRecord i why =
      (let s1 := s.updNotices i fun n => n.afterEnding f.tag why
       let s2 := if f.state = .active then s1.setMeter (s1.meter.activeDown s1.partTime) else s1
       (s2.setSlot f.slot none).updSession i fun r => { r with fetch := none }) := by
    rw [← h1]
    unfold State.endRecord
    rw [h] <;> rfl
  rw [h2]
  dsimp only
  split <;> rfl

theorem State.endRecord_none (s : State) (i : SessionId) (why : Option CancelReason) (h : (s.session i).fetch = none) :
    s.endRecord i why = s := by
  simp only [State.endRecord, h]

theorem State.session_endRecord (s : State) (i j : SessionId) (why : Option CancelReason) :
    (s.endRecord i why).session j = if j = i then { s.session i with fetch := none } else s.session j := by
  cases h : (s.session i).fetch with
  | none =>
    rw [State.endRecord_none _ _ _ h]
    split
    · next hj => subst hj; rw [← h]
    · rfl
  | some f =>
    rw [State.endRecord_eq _ _ _ _ h]
    exact Four.get_set _ _ _ _

/-- A preemption's ending is the arbiter's (R140). -/
theorem State.endRecord_preempt_only (s : State) (i : SessionId) : ArbiterOnly s (s.endRecord i (some .preempt)) := by
  cases h : (s.session i).fetch with
  | none => rw [State.endRecord_none _ _ _ h]; exact .refl s
  | some f =>
    have hss : ∀ j, (s.endRecord i (some .preempt)).session j =
        if j = i then { s.session i with fetch := none } else s.session j := fun j => State.session_endRecord s i j _
    have hnn : ∀ j, (s.endRecord i (some .preempt)).notices j =
        if j = i then (s.notices i).afterEnding f.tag (some .preempt) else s.notices j := fun j => by
      rw [State.endRecord_eq _ _ _ _ h]; exact Four.get_set _ _ _ _
    have hne : ∀ n : NoticeSet, n.afterEnding f.tag (some .preempt) = { n with
        order := (n.afterEnding f.tag (some .preempt)).order, cancel := (n.afterEnding f.tag (some .preempt)).cancel } := by
      intro n
      unfold NoticeSet.afterEnding
      split <;> rfl
    have heq := State.endRecord_eq s i (some .preempt) f h
    refine ⟨by rw [heq], by rw [heq], by rw [heq], by rw [heq], by rw [heq], by rw [heq], by rw [heq], ?_, by rw [heq],
      fun j => ?_, fun j => ?_, fun j => ?_, fun j e he => ?_, fun j => ?_⟩
    · rw [heq]
      simp only [LinkMeter.activeDown]
      split <;> [split <;> rfl; rfl]
    · rw [hnn]
      split
      · next hj => subst hj; exact hne _
      · rfl
    · rw [hss]
      split
      · next hj => subst hj; rfl
      · rfl
    · rw [hss]
      split
      · next hj => subst hj; exact .inl rfl
      · exact .inl rfl
    · rw [hss] at he ⊢
      split at he
      · exact absurd he (by simp)
      · next hj => rw [if_neg hj]; exact .inl ⟨he, rfl⟩
    · rw [hss, hnn]
      split
      · next hj =>
        subst hj
        refine .inr (.inr ⟨rfl, ?_, ?_⟩)
        · unfold NoticeSet.afterEnding
          split
          · rfl
          · next ho => simpa using ho
        · unfold NoticeSet.afterEnding
          split
          · exact .inr (.inl rfl)
          · next ho =>
            cases hc : (s.notices j).cancel with
            | some c => exact .inr (.inl rfl)
            | none => exact .inr (.inr ⟨f, h, by simpa using ho, rfl, rfl⟩)
      · exact .inl ⟨rfl, rfl⟩

/-- What a grant is (R128, R133, R134, R145): there is a free slot, a session selected, and the record created there. -/
theorem State.grantOnce_eq_some {s t : State} (h : s.grantOnce = some t) :
    s.grantsAllowed = true ∧ ∃ k i, s.freeSlot = some k ∧ s.selectEntry = some i ∧ t = (s.removeEntry i).createRecord i k := by
  unfold State.grantOnce at h
  split at h
  · next ha =>
    split at h
    · next k i hk hi => exact ⟨ha, k, i, hk, hi, (Option.some.inj h).symm⟩
    · exact absurd h (by simp)
  · exact absurd h (by simp)

theorem State.grantOnce_only {s t : State} (h : s.grantOnce = some t) : ArbiterOnly s t := by
  obtain ⟨_, k, i, hk, _, rfl⟩ := State.grantOnce_eq_some h
  exact (State.removeEntry_only _ _).trans (State.createRecord_only _ _ _ (State.freeSlot_inPool hk))

theorem State.grantUpTo_only (n : Nat) (s : State) : ArbiterOnly s (s.grantUpTo n) := by
  induction n generalizing s with
  | zero => exact .refl s
  | succ n ih =>
    rw [State.grantUpTo]
    split
    · next t ht => exact (State.grantOnce_only ht).trans (ih t)
    · exact .refl s

/-- The free slots of the pool. -/
def State.freeCount (s : State) : Nat := s.pool.countP fun k => (s.arbiter.slots.get k).isNone

theorem State.freeCount_le (s : State) : s.freeCount ≤ Config.maxSlots :=
  List.countP_le_length.trans ((List.length_filter_le _ _).trans (by decide))

/-- A grant takes a free slot (R128). -/
theorem State.grantOnce_freeCount {s t : State} (h : s.grantOnce = some t) : t.freeCount + 1 ≤ s.freeCount := by
  obtain ⟨_, k, i, hk, _, rfl⟩ := State.grantOnce_eq_some h
  have hslots : ∀ j, ((s.removeEntry i).createRecord i k).arbiter.slots.get j =
      if j = k then some ⟨i, s.partTime⟩ else s.arbiter.slots.get j := fun j => Four.get_set _ _ _ _
  have hnd : s.pool.Nodup := Idx4.nodup_all.filter _
  have hfree := List.find?_some hk
  obtain ⟨a, b, hab⟩ := List.append_of_mem (List.mem_of_find?_eq_some hk)
  have hpool : ((s.removeEntry i).createRecord i k).pool = s.pool := rfl
  simp only [State.freeCount, hpool, hslots]
  rw [hab] at hnd ⊢
  have hk' : k ∉ a ∧ k ∉ b := by
    rw [List.nodup_append] at hnd
    exact ⟨fun hx => hnd.2.2 k hx k (by simp) rfl, (List.nodup_cons.mp hnd.2.1).1⟩
  have hsame : ∀ l : List SlotId, k ∉ l →
      l.countP (fun x => (if x = k then some (⟨i, s.partTime⟩ : SlotHolder) else s.arbiter.slots.get x).isNone) =
        l.countP fun x => (s.arbiter.slots.get x).isNone := by
    intro l hl
    refine List.countP_congr fun x hx => ?_
    have : x ≠ k := by
      rintro rfl
      exact hl hx
    rw [if_neg this]
  simp only [List.countP_append, List.countP_cons, hsame a hk'.1, hsame b hk'.2]
  simp [hfree]

/-- Fuel for as many grants as there are free slots is enough (R135). -/
theorem State.grantUpTo_succ (n : Nat) (s : State) (h : s.freeCount ≤ n) : s.grantUpTo n = s.grantUpTo (n + 1) := by
  induction n generalizing s with
  | zero =>
    cases hg : s.grantOnce with
    | none => simp [State.grantUpTo, hg]
    | some t =>
      have := State.grantOnce_freeCount hg
      omega
  | succ n ih =>
    rw [State.grantUpTo, State.grantUpTo]
    cases hg : s.grantOnce with
    | none => rfl
    | some t =>
      have := State.grantOnce_freeCount hg
      exact ih t (by omega)

/-- Granting as often as the conditions hold goes on after its first grant (R135). -/
theorem State.grantAll_of_grantOnce {s t : State} (h : s.grantOnce = some t) : s.grantAll = t.grantAll := by
  show s.grantUpTo (3 + 1) = t.grantUpTo (3 + 1)
  rw [State.grantUpTo, h]
  have h1 := State.grantOnce_freeCount h
  have h2 := State.freeCount_le s
  exact State.grantUpTo_succ 3 t (by simp only [Config.maxSlots] at h2; omega)

theorem State.grantAll_only (s : State) : ArbiterOnly s s.grantAll := State.grantUpTo_only _ s

theorem State.preempt_only (s : State) (i victim : SessionId) : ArbiterOnly s (s.preempt i victim) := by
  have h := (State.markPreemptionUsed_only s i).trans (State.endRecord_preempt_only (s.markPreemptionUsed i) victim)
  exact (h.trans (.ite (State.prependEntry_only _ _) (.refl _))).trans (State.grantAll_only _)

theorem State.considerPreemption_only (s : State) (i : SessionId) : ArbiterOnly s (s.considerPreemption i) := by
  unfold State.considerPreemption
  split
  · exact State.preempt_only _ _ _
  · exact .refl s

theorem State.considerAll_only (s : State) : ArbiterOnly s s.considerAll :=
  ArbiterOnly.foldl State.considerPreemption_only _ _

/-- A re-examination is an act of the arbiter alone (R130). -/
theorem State.reexamine_only (s : State) (i : SessionId) (wasUrgent freed : Bool) :
    ArbiterOnly s (s.reexamine i wasUrgent freed) := by
  refine .ite (((State.appendEntry_only s i).trans (State.grantAll_only _)).trans
    (.ite (State.considerPreemption_only _ _) (.refl _))) ?_
  have h1 : ArbiterOnly s (if s.isQueued i && !s.wants i then s.removeEntry i else s) :=
    .ite (State.removeEntry_only _ _) (.refl _)
  exact (h1.trans (.ite (State.grantAll_only _) (.refl _))).trans (.ite (State.considerPreemption_only _ _) (.refl _))

/-- Session `i` handed to the arbiter (R130). -/
theorem State.handedOver_reexamine (s : State) (i : SessionId) (wasUrgent freed : Bool) :
    s.handedOver i wasUrgent freed (s.reexamine i wasUrgent freed) := ⟨rfl, State.reexamine_only s i wasUrgent freed⟩

end Sys2Proof.Machine
end

