-- ==== Sys2Proof/Laws/Bytes.lean ====
section
/-! SUPPORT. Part-time arithmetic, ranges, and that each payload is read as it was written (R23, R26). -/

namespace Sys2Proof.Machine

open Sys2Proof

/-! ### Part time and ranges -/

@[simp] theorem interval_self (t : PartTime) : interval t t = 0 := by simp [interval]

theorem interval_lt (t u : PartTime) : interval t u < 2 ^ 32 := (u - t).isLt

/-- The interval to a time armed within 2^32 ms is the duration armed (R26). -/
theorem interval_later (t : PartTime) {d : Nat} (h : d < 2 ^ 32) : interval t (later t d) = d := by
  simp [interval, later]; omega

theorem clamp_ge {lo hi v : Nat} (h : lo ≤ hi) : lo ≤ clamp lo hi v := by unfold clamp; split <;> [omega; split <;> omega]
theorem clamp_le {lo hi v : Nat} (h : lo ≤ hi) : clamp lo hi v ≤ hi := by unfold clamp; split <;> [omega; split <;> omega]
theorem clamp_of_mem {lo hi v : Nat} (h1 : lo ≤ v) (h2 : v ≤ hi) : clamp lo hi v = v := by unfold clamp; split <;> [omega; split <;> omega]

/-- A clamp is the middle one of the two bounds and the value. -/
theorem clamp_eq_max_min {lo hi v : Nat} (h : lo ≤ hi) : clamp lo hi v = max lo (min hi v) := by
  unfold clamp; split <;> [omega; split <;> omega]

/-! ### Byte order -/

theorem bytes16_length (n : Nat) : (bytes16 n).length = 2 := rfl
theorem le16_length (v : BitVec 16) : (le16 v).length = 2 := rfl
theorem le32_length (v : BitVec 32) : (le32 v).length = 4 := rfl

/-- Two bytes of a number below 2^16, put together again. -/
theorem join16 (n : Nat) (h : n < 65536) :
    (BitVec.ofNat 8 n).toNat + 256 * (BitVec.ofNat 8 (n / 256)).toNat = n := by
  simp only [BitVec.toNat_ofNat]; omega

/-- Four bytes of a number below 2^32, put together again. -/
theorem join32 (n : Nat) (h : n < 4294967296) :
    (BitVec.ofNat 8 n).toNat + 256 * (BitVec.ofNat 8 (n / 256)).toNat +
      65536 * ((BitVec.ofNat 8 (n / 65536)).toNat + 256 * (BitVec.ofNat 8 (n / 65536 / 256)).toNat) = n := by
  simp only [BitVec.toNat_ofNat]; omega

theorem field16_le16 (v : BitVec 16) : field16 (le16 v) 0 = v.toNat := join16 _ v.isLt

theorem field32_le32 (v : BitVec 32) : field32 (le32 v) 0 = v.toNat := join32 _ v.isLt

theorem field32_cons_le32 (b : Byte) (v : BitVec 32) : field32 (b :: le32 v) 1 = v.toNat := join32 _ v.isLt

/-- A CONFIGURE payload is read as it was written (01 §1.11). -/
theorem ConfigRequest.ofPayload_configPayload (c : ConfigFields) :
    ConfigRequest.ofPayload (configPayload c) = configRequest c := by
  have h16 : ∀ v : BitVec 16, (BitVec.ofNat 8 v.toNat).toNat + 256 * (BitVec.ofNat 8 (v.toNat / 256)).toNat = v.toNat :=
    fun v => join16 _ v.isLt
  have h32 := join32 c.opening.toNat c.opening.isLt
  simp only [ConfigRequest.ofPayload, configRequest, configPayload, le16, le32, bytes16, field16, field32, byteAt,
    List.cons_append, List.nil_append, List.getD_cons_zero, List.getD_cons_succ, h16, h32]

theorem configPayload_length (c : ConfigFields) : (configPayload c).length = 31 := by
  simp only [configPayload, List.length_append, List.length_cons, List.length_nil, le16_length, le32_length]

/-! ### The bitrates of an OPEN -/

theorem flatMap_le16_length (l : List (BitVec 16)) : (l.flatMap le16).length = 2 * l.length := by
  induction l with
  | nil => rfl
  | cons a l ih => simp [List.flatMap_cons, ih, le16_length]; omega

/-- The r-th two-byte value of a run of them (R39). -/
theorem field16_flatMap_le16 (l : List (BitVec 16)) (r : Nat) (h : r < l.length) :
    field16 (l.flatMap le16) (2 * r) = (l[r]).toNat := by
  induction l generalizing r with
  | nil => simp at h
  | cons a l ih =>
    cases r with
    | zero => exact join16 _ a.isLt
    | succ r =>
      have h' : r < l.length := by simpa using h
      have := ih r h'
      rw [show 2 * (r + 1) = 2 * r + 2 by omega]
      simpa [field16, byteAt, List.flatMap_cons, le16, bytes16] using this

/-- Reading past a prefix of known length. -/
theorem field16_append_right (p q : List Byte) (k : Nat) : field16 (p ++ q) (p.length + k) = field16 q k := by
  simp [field16, byteAt, List.getD_eq_getElem?_getD, List.getElem?_append_right, Nat.add_assoc]

/-- The 32 bytes of an OPEN payload before the bitrates. -/
def openHead (o : OpenFields) : List Byte :=
  [o.mode, o.rungCount] ++ le16 o.segmentMs ++ le32 o.firstSegment ++ le32 o.lastSegment ++
    [o.weight, o.cap, o.floor, o.startRung] ++ le32 o.markL ++ le32 o.markT ++ le32 o.markH ++ le32 o.markS0

theorem openHead_length (o : OpenFields) : (openHead o).length = 32 := rfl

theorem openPayload_eq (o : OpenFields) : openPayload o = openHead o ++ o.bitrates.flatMap le16 := rfl

theorem openPayload_length (o : OpenFields) : (openPayload o).length = o.payloadLength := by
  rw [openPayload_eq, List.length_append, openHead_length, flatMap_le16_length, OpenFields.payloadLength]

/-- An OPEN payload is read as it was written when its rung count is the number of its bitrates (01 §1.11, R39). -/
theorem OpenRequest.ofPayload_openPayload (o : OpenFields) (h : o.rungCount.toNat = o.bitrates.length) :
    OpenRequest.ofPayload (openPayload o) = openRequest o := by
  have hb : byteAt (openPayload o) 1 = o.bitrates.length := by rw [← h]; rfl
  have hr : (List.range (byteAt (openPayload o) 1)).map (fun r => field16 (openPayload o) (32 + 2 * r)) =
      o.bitrates.map (·.toNat) := by
    rw [hb]
    apply List.ext_getElem (by simp)
    intro k h1 h2
    have hk : k < o.bitrates.length := by simpa using h2
    simp only [List.getElem_map, List.getElem_range, openPayload_eq]
    rw [show (32 : Nat) = (openHead o).length from rfl, field16_append_right, field16_flatMap_le16 _ _ hk]
  have h16 : ∀ v : BitVec 16, (BitVec.ofNat 8 v.toNat).toNat + 256 * (BitVec.ofNat 8 (v.toNat / 256)).toNat = v.toNat :=
    fun v => join16 _ v.isLt
  have h32 : ∀ v : BitVec 32, (BitVec.ofNat 8 v.toNat).toNat + 256 * (BitVec.ofNat 8 (v.toNat / 256)).toNat +
      65536 * ((BitVec.ofNat 8 (v.toNat / 65536)).toNat + 256 * (BitVec.ofNat 8 (v.toNat / 65536 / 256)).toNat) = v.toNat :=
    fun v => join32 _ v.isLt
  unfold OpenRequest.ofPayload
  rw [hr]
  simp only [openRequest, openPayload, le16, le32, bytes16, field16, field32, byteAt, List.cons_append, List.nil_append,
    List.getD_cons_zero, List.getD_cons_succ, h16, h32]

/-! ### Kinds and targets -/

@[simp] theorem ReqKind.ofCode_code (k : ReqKind) : ReqKind.ofCode k.code = some k := by cases k <;> decide

@[simp] theorem Target.ofByte_session (i : SessionId) : Target.ofByte (sessionByte i) = some (.session i) := by
  cases i <;> decide
@[simp] theorem Target.ofByte_device : Target.ofByte Config.deviceTarget = some .device := by decide
@[simp] theorem Target.ofByte_all : Target.ofByte Config.allTarget = some .all := by decide

end Sys2Proof.Machine
end

