-- ==== Sys2Proof/Laws/Link.lean ====
section
/-! SUPPORT. A request's frame at a part that is ready for it: the receiver takes it whole, and what the owner leaves stands,
with the reply at the tail of the queue (R3, R6 to R9, R19). -/

namespace Sys2Proof.Machine

open Sys2Proof

theorem State.receive_of_receives (s : State) (b : Byte) (h : s.receives = true) : s.receive b = s.takeByte b := by
  simp [State.receive, h]

theorem State.receives_moveFramer (s : State) (f : Framer) : (s.moveFramer f).receives = s.receives := rfl

/-- In the midst of a frame each byte moves the receiver on (R3). -/
theorem State.receive_moveFramer (s : State) (f : Framer) (b : Byte) (h : s.receives = true) :
    (s.moveFramer f).receive b = (s.moveFramer f).takeByte b :=
  State.receive_of_receives _ _ (by rw [State.receives_moveFramer]; exact h)

theorem State.takeByte_payload (s : State) (k t l : Byte) (p : List Byte) (b : Byte) :
    (s.moveFramer (.payload k t l p)).takeByte b =
      if p.length + 1 < l.toNat then s.moveFramer (.payload k t l (p ++ [b])) else s.moveFramer (.sum k t l (p ++ [b])) := rfl

theorem State.takeByte_len (s : State) (k t b : Byte) :
    (s.moveFramer (.len k t)).takeByte b =
      if b = 0#8 then s.moveFramer (.sum k t b []) else s.moveFramer (.payload k t b []) := rfl

/-- The payload bytes but the last are appended one by one, and the last moves the receiver to SUM (R3). -/
theorem State.receiveAll_payload (s : State) (k t l : Byte) (done todo : List Byte) (x : Byte) (h : s.receives = true)
    (hl : (done ++ todo).length + 1 = l.toNat) :
    (s.moveFramer (.payload k t l done)).receiveAll (todo ++ [x]) = s.moveFramer (.sum k t l (done ++ todo ++ [x])) := by
  induction todo generalizing done with
  | nil =>
    have hn : ¬ done.length + 1 < l.toNat := by simp at hl; omega
    simp only [State.receiveAll, List.nil_append, List.foldl_cons, List.foldl_nil, List.append_nil]
    rw [State.receive_moveFramer _ _ _ h, State.takeByte_payload, if_neg hn]
  | cons b todo ih =>
    have hlt : done.length + 1 < l.toNat := by simp at hl; omega
    have hstep : (s.moveFramer (.payload k t l done)).receive b = s.moveFramer (.payload k t l (done ++ [b])) := by
      rw [State.receive_moveFramer _ _ _ h, State.takeByte_payload, if_pos hlt]
    have := ih (done ++ [b]) (by simpa using hl)
    simp only [State.receiveAll, List.cons_append, List.foldl_cons, hstep] at this ⊢
    simpa using this

/-- A frame of at most 255 payload bytes reaches its completion with the receiver back in HUNT (R3). -/
theorem State.receiveAll_frame (s : State) (kind target e : Byte) (p : List Byte) (hr : s.receives = true)
    (hf : s.link.framer = .hunt) (hg : s.link.gap = none) (hp : p.length ≤ 255) :
    s.receiveAll (frameBytes kind target p e) =
      (s.completeFrame kind target (BitVec.ofNat 8 p.length) p
        (frameSum kind target (BitVec.ofNat 8 p.length) p + e)).transmitReply := by
  have hreset : ∀ f, (s.moveFramer f).resetFramer = s := by
    intro f
    obtain ⟨_, _, link, _, _, _, _, _, _⟩ := s
    obtain ⟨_, _, _, _, _, _, _, _, _, _, _, _⟩ := link
    simp only at hf hg
    subst hf; subst hg; rfl
  have h1 : s.receive Config.sync = s.moveFramer .kind := by
    rw [State.receive_of_receives _ _ hr, State.takeByte, hf]; rfl
  have hhead : s.receiveAll (frameBytes kind target p e) =
      (s.moveFramer (.len kind target)).receiveAll
        (BitVec.ofNat 8 p.length :: (p ++ [frameSum kind target (BitVec.ofNat 8 p.length) p + e])) := by
    simp only [State.receiveAll, frameBytes, List.foldl_cons, h1]
    rw [State.receive_moveFramer _ _ _ hr, show (s.moveFramer .kind).takeByte kind = s.moveFramer (.target kind) from rfl,
      State.receive_moveFramer _ _ _ hr,
      show (s.moveFramer (.target kind)).takeByte target = s.moveFramer (.len kind target) from rfl]
  have hlast : ∀ (q : List Byte) (x : Byte),
      (s.moveFramer (.sum kind target (BitVec.ofNat 8 p.length) q)).receive x =
        (s.completeFrame kind target (BitVec.ofNat 8 p.length) q x).transmitReply := by
    intro q x
    rw [State.receive_moveFramer _ _ _ hr]
    show (((s.moveFramer _).resetFramer).completeFrame kind target _ q x).transmitReply = _
    rw [hreset]
  rw [hhead]
  have hlen : (BitVec.ofNat 8 p.length).toNat = p.length := by simp; omega
  rcases p.eq_nil_or_concat with rfl | ⟨q, x, rfl⟩
  · have h2 : (s.moveFramer (.len kind target)).receive (BitVec.ofNat 8 0) =
        s.moveFramer (.sum kind target (BitVec.ofNat 8 0) []) := by
      rw [State.receive_moveFramer _ _ _ hr, State.takeByte_len, if_pos rfl]
    simp only [State.receiveAll, List.length_nil, List.nil_append, List.foldl_cons, List.foldl_nil, h2]
    exact hlast [] _
  · generalize hL : BitVec.ofNat 8 (q.concat x).length = L at *
    have hne : L ≠ 0#8 := by
      intro h0
      rw [h0] at hlen
      simp at hlen
    have h2 : (s.moveFramer (.len kind target)).receive L = s.moveFramer (.payload kind target L []) := by
      rw [State.receive_moveFramer _ _ _ hr, State.takeByte_len, if_neg hne]
    have h3 := State.receiveAll_payload s kind target L [] q x hr (by simpa using hlen.symm)
    simp only [State.receiveAll, List.foldl_cons, List.foldl_append, h2, List.concat_eq_append, List.foldl_nil,
      List.nil_append] at h3 ⊢
    rw [h3]
    exact hlast _ _

/-! ### The transmitter's choice (R19, R180) -/

theorem State.chooseFrame_reply (s : State) (r : Reply) (rest : List Reply) (h : s.link.replies = r :: rest) :
    s.chooseFrame = s.sendReply r := by rw [State.chooseFrame, h]

theorem State.chooseFrame_before_reply (s : State) (h : s.link.replies = []) (hb : s.link.replyBegun = false) :
    s.chooseFrame = s := by simp [State.chooseFrame, h, hb]

theorem State.chooseFrame_notice (s : State) (h : s.link.replies = []) (hb : s.link.replyBegun = true) :
    s.chooseFrame = s.chooseNotice := by simp [State.chooseFrame, h, hb]

/-- With nothing pending anywhere no notice begins. -/
theorem State.chooseNotice_none (s : State) (h : ∀ src, s.hasNotice src = false) : s.chooseNotice = s := by
  have hn : s.nextSource = none := List.find?_eq_none.mpr fun src _ => by simp [h src]
  rw [State.chooseNotice, hn]

/-- An idle transmitter that has nothing to send stays idle, and one that is sending makes no choice (R19). -/
theorem State.leaveIdle_served (s : State) (h : s.transmitterServed) : s.leaveIdle = s := by
  unfold State.leaveIdle
  split
  next ht =>
    obtain ⟨hr, hn⟩ := h ht
    cases hb : s.link.replyBegun with
    | false => exact s.chooseFrame_before_reply hr hb
    | true =>
      rw [s.chooseFrame_notice hr hb]
      obtain ⟨hl, hi⟩ := hn hb
      refine s.chooseNotice_none fun src => ?_
      cases src with
      | device => exact hl
      | session i => exact decide_eq_false (not_not_intro (hi i))
  · rfl
  · rfl

/-- With no choice left to the transmitter, a complete frame finds the state as it stands. -/
theorem State.completeFrame_served (s : State) (h : s.transmitterServed) (kind target len : Byte) (p : List Byte) (sum : Byte) :
    s.completeFrame kind target len p sum =
      if Config.replyRoom ≤ s.link.replies.length then s.setLink { s.link with overrunSeen := true }
      else s.checkFrame kind target len p sum := by
  simp only [State.completeFrame, s.leaveIdle_served h, ite_self]

/-- A CLOSE or RESET that clears the notice whose turn it is finds the state as it stands (R174, R181). -/
theorem State.completeFrame_clears (s : State) (kind target len : Byte) (p : List Byte) (sum : Byte)
    (h : s.clearsNext kind target len p sum = true) :
    s.completeFrame kind target len p sum =
      if Config.replyRoom ≤ s.link.replies.length then s.setLink { s.link with overrunSeen := true }
      else s.checkFrame kind target len p sum := by
  simp only [State.completeFrame, h, if_true]

/-! ### A request at a part that is ready for it -/

theorem State.linkReady.receives {s : State} (h : s.linkReady) : s.receives = true := by
  simp [State.receives, h.1.1, h.1.2.1]

/-- A request at a part that is ready: its frame is complete and is checked (R6). -/
theorem State.receiveRequest_ready {s : State} (h : s.linkReady) (k : ReqKind) (w : Wire) (p : List Byte)
    (hp : p.length ≤ 255) :
    s.receiveRequest k w p =
      (s.checkFrame k.code w.target (BitVec.ofNat 8 p.length) p
        (frameSum k.code w.target (BitVec.ofNat 8 p.length) p + w.sumError)).transmitReply := by
  obtain ⟨⟨h1, h2, h3, h4, h5⟩, h6⟩ := h
  have hroom : ¬ Config.replyRoom ≤ s.link.replies.length := by simp [Config.replyRoom]; omega
  rw [State.receiveRequest, State.receiveAll_frame s _ _ _ _ (by simp [State.receives, h1, h2]) h3 h4 hp,
    State.completeFrame_served s h6, if_neg hroom]

/-- A frame without a fault is answered (R7, R8). -/
theorem State.checkFrame_clean (s : State) (k : ReqKind) (target : Byte) (p : List Byte) (hp : p.length ≤ 255)
    (hlen : k.requiredLength p = some p.length) :
    s.checkFrame k.code target (BitVec.ofNat 8 p.length) p (frameSum k.code target (BitVec.ofNat 8 p.length) p) =
      s.answerRequest k target p := by
  have hl : (BitVec.ofNat 8 p.length).toNat = p.length := by simp; omega
  simp [State.checkFrame, hl, hlen]

/-- A reply queued when the receiver stands in HUNT, and the transmitter after it: `afterReply`. -/
theorem State.transmitReply_queueReply (t : State) (r : Reply) (hf : t.link.framer = .hunt) (hg : t.link.gap = none) :
    (t.queueReply r).transmitReply = afterReply t r := by
  obtain ⟨n, pt, link, c, ss, m, a, st, pe⟩ := t
  obtain ⟨lr, fr, gap, rx, rr, reps, os, ln, ns, rot, tx, rb⟩ := link
  simp only at hf hg
  subst hf; subst hg
  cases tx <;> cases reps <;> rfl

/-- The whole of a clean request at a part that is ready, given what its service answers. -/
theorem State.receiveRequest_served {s core : State} {c : Answer} (h : s.linkReady) (k : ReqKind) (target : Byte)
    (p : List Byte) (hp : p.length ≤ 255) (hlen : k.requiredLength p = some p.length)
    (hserve : s.serve k target p = (core, c)) (hf : core.link.framer = .hunt) (hg : core.link.gap = none) :
    s.receiveRequest k (clean target) p = afterReply core (replyTo k target c.status c.fields) := by
  rw [State.receiveRequest_ready h _ _ _ hp]
  have : frameSum k.code (clean target).target (BitVec.ofNat 8 p.length) p + (clean target).sumError =
      frameSum k.code target (BitVec.ofNat 8 p.length) p := by simp [clean]
  rw [this]
  show (s.checkFrame k.code target _ p _).transmitReply = _
  rw [State.checkFrame_clean s k target p hp hlen, State.answerRequest, hserve]
  exact State.transmitReply_queueReply core _ hf hg

/-- A damaged request at a part that is ready gets its status-only reply and nothing else (R7). -/
theorem State.receiveRequest_damaged {s : State} (h : s.linkReady) (k : ReqKind) (w : Wire) (p : List Byte)
    (hp : p.length ≤ 255) (hw : w.sumError ≠ 0#8) :
    s.receiveRequest k w p = afterReply s (faultReply k.code w.target sumBadBit) := by
  rw [State.receiveRequest_ready h _ _ _ hp, State.checkFrame, if_pos (by simpa using hw)]
  exact State.transmitReply_queueReply s _ h.1.2.2.1 h.1.2.2.2.1

/-- With the reply queue full a request is discarded whole (R6). -/
theorem State.receiveRequest_full {s : State} (hr : s.receives = true) (hf : s.link.framer = .hunt)
    (hg : s.link.gap = none) (hs : s.transmitterServed) (hfull : 4 ≤ s.link.replies.length) (k : ReqKind) (w : Wire) (p : List Byte)
    (hp : p.length ≤ 255) :
    s.receiveRequest k w p = (s.setLink { s.link with overrunSeen := true }).transmitReply := by
  rw [State.receiveRequest, State.receiveAll_frame s _ _ _ _ hr hf hg hp, State.completeFrame_served s hs,
    if_pos (by simpa [Config.replyRoom] using hfull)]

end Sys2Proof.Machine
end

