-- ==== Sys2Proof/Tests/Slice0.lean ====
section
/-! SUPPORT. Small tests on fixed values: the check of well-formedness, figures that the spec works out, one step of each
command, and for every statement with hypotheses a state and operands that meet them. -/

namespace Sys2Proof.Tests

open Sys2Proof Sys2Proof.Machine

/-! ### Helpers -/

/-- A part that is running, idle and ready for a request at part time 1000, its first reply sent. -/
def ready : State :=
  { State.reset with
    nrstHigh := true
    partTime := 1000#32
    link := { ControlLink.reset with rdyRisen := true, replyBegun := true }
    meter := { LinkMeter.reset with windowExpiry := some 1250#32 } }

/-- The ready part with a record for session 0. -/
def readyWith (r : Session) : State := ready.withSession .i0 r

/-- The ready part with something else of its link. -/
def readyLink (l : ControlLink) : State := { ready with link := l }

/-- What a command leaves. -/
def after (cmd : Instr) (s : State) : State :=
  match exec cmd s with
  | .next t => t
  | .fault _ => s
  | .refused _ => s

/-- The frame in transmission. -/
def onLine (s : State) : List Byte :=
  match s.link.tx with
  | .idle => []
  | .reply f => f
  | .notice f => f

/-- A record in its second rung's fetch. -/
def fetch0 : FetchRecord where
  tag := 7#8
  segment := 3
  rung := 1
  expected := 500000
  received := 1000
  state := .active
  grantTime := 900#32
  activityExpiry := 1000#32
  attempt := 0
  retryMark := false
  replacementMark := false
  slot := .i0

/-- An on-demand session of two rungs, playing with 6000 ms. -/
def playing : Session :=
  { Session.blank with
    state := .playing
    ladder := [⟨500, 256, false⟩, ⟨1000, 256, false⟩]
    segmentMs := 4000
    nextSegment := 3
    lastSegment := some 9
    weight := 4
    cap := 1
    markL := 5000
    markT := 10000
    markH := 20000
    markS0 := 8000
    storedLevel := 6000
    refTime := 1000#32
    activeRung := 1
    tagCounter := 7#8 }

/-- The session with its fetch. -/
def fetching : Session := { playing with fetch := some fetch0 }

/-- The session in a state. -/
def inState (st : SessionState) : Session := { playing with state := st }

/-- A slow link under a session: 100 kbit/s. -/
def slow (r : Session) : State := { readyWith r with meter := { ready.meter with fast := 107, slow := 107, empty := false } }

/-- The slow link under the fetching session. -/
def slowLink : State := slow fetching

/-- The slow link with a window that ends now and forms a sample of 100 kbit/s. -/
def windowLink : State :=
  { slowLink with meter := { slowLink.meter with windowExpiry := some 1000#32, bytes := 2500, busyStored := 200 } }

/-- One slot, held by a session that is not urgent, and an urgent session that waits. -/
def contested : State :=
  { readyWith fetching with
    sessions := (Four.set (Four.const Session.blank) .i0 fetching).set .i1 { inState .priming with liveEdge := 9 }
    settings := { Settings.default with slotCount := 1 }
    arbiter := ⟨Four.set (Four.const none) .i0 (some ⟨.i0, 900#32⟩), [⟨.i1, false⟩], false, Four.const none⟩ }

/-- A one-rung live programme. -/
def liveOpen : OpenFields where
  mode := 1#8
  rungCount := 1#8
  segmentMs := 4000#16
  firstSegment := 5#32
  lastSegment := 0xFFFFFFFF#32
  weight := 1#8
  cap := 0#8
  floor := 0#8
  startRung := 0#8
  markL := 5000#32
  markT := 9000#32
  markH := 20000#32
  markS0 := 8000#32
  bitrates := [800#16]

/-- The OPEN of 03 §3.4's example. -/
def clampedOpen : OpenFields where
  mode := 1#8
  rungCount := 3#8
  segmentMs := 4000#16
  firstSegment := 5000#32
  lastSegment := 0xFFFFFFFF#32
  weight := 20#8
  cap := 6#8
  floor := 4#8
  startRung := 0#8
  markL := 70000#32
  markT := 20000#32
  markH := 30000#32
  markS0 := 80000#32
  bitrates := [600#16, 1200#16, 2500#16]

/-- The default settings as CONFIGURE carries them. -/
def plainConfig : ConfigFields where
  slotCount := 2#8
  window := 250#16
  fastShift := 1#8
  slowShift := 3#8
  margin0 := 240#16
  margin1 := 224#16
  margin2 := 208#16
  margin3 := 192#16
  margin4 := 168#16
  margin5 := 144#16
  margin6 := 112#16
  opening := 3000#32
  fit := 224#16
  activityTimeout := 4000#16
  retryLimit := 2#8
  upHold := 2#8
  preemption := 1#8
  abandonment := 1#8

/-- The line to session 0. -/
def toZero : Wire := clean (sessionByte .i0)

/-- The line to the device. -/
def toDevice : Wire := clean 0x0E#8

theorem ready_linkOpen : ready.linkOpen := ⟨rfl, rfl, rfl, rfl, by decide⟩
theorem ready_served (s : State) (h : s.link = ready.link) : s.transmitterServed := by
  intro _
  rw [h]
  exact ⟨rfl, fun _ => ⟨rfl, fun i => by rw [State.notices, h]; cases i <;> rfl⟩⟩
theorem ready_linkReady : ready.linkReady := ⟨ready_linkOpen, ready_served _ rfl⟩
theorem readyWith_linkReady (r : Session) : (readyWith r).linkReady := ⟨ready_linkOpen, ready_served _ rfl⟩

/-! ### Well-formedness -/

theorem test_open_of_111_bitrates_fits : (Instr.openSession toZero { liveOpen with bitrates := List.replicate 111 1#16 }).wellFormed = true := by
  decide
theorem test_open_of_112_bitrates_refused : (Instr.openSession toZero { liveOpen with bitrates := List.replicate 112 1#16 }).wellFormed = false := by
  decide

/-! ### Figures the spec works out -/

theorem test_hello_frame : frameBytes ReqKind.hello.code 0x0E#8 [] 0#8 = [0xC3#8, 0x01#8, 0x0E#8, 0x00#8, 0x0F#8] := by decide
theorem test_part_time_wrap : later 0xFFFFF830#32 4000 = 0x7D0#32 ∧ interval 0xFFFFF830#32 0x100#32 = 2256 := by decide
theorem test_margins : (4000 * 240 / 256, 4000 * 208 / 256, 4000 * 168 / 256, 4000 * 112 / 256) = (3750, 3250, 2625, 1750) ∧
    Settings.default.margins.at 4#3 = 168 := by decide
theorem test_averages : average 1 4000 3000 = 3500 ∧ average 3 3600 3000 = 3525 := by decide
theorem test_ratio_settles : learnedRatio 280 273 256 = 278 ∧ learnedRatio 278 273 256 = 277 ∧ learnedRatio 276 273 256 = 275 ∧
    learnedRatio 275 273 256 = 275 := by decide
theorem test_nominal_size : ({ playing with ladder := [⟨1500, 256, false⟩] } : Session).nominalSize 0 = 750000 := by decide
theorem test_fit_limit : fitLimit 4000 224 = 3500 ∧ fitLimit 2000 256 = 2000 := by decide
theorem test_open_clamps : (openedRecord clampedOpen 0#32).weight = 15 ∧ (openedRecord clampedOpen 0#32).cap = 2 ∧
    (openedRecord clampedOpen 0#32).floor = 2 ∧ (openedRecord clampedOpen 0#32).activeRung = 2 ∧
    (openedRecord clampedOpen 0#32).markL = 60000 ∧ (openedRecord clampedOpen 0#32).markT = 64000 ∧
    (openedRecord clampedOpen 0#32).markH = 64000 ∧ (openedRecord clampedOpen 0#32).markS0 = 64000 := by decide
theorem test_rotation : ({ ready with link := { ready.link with
      rotation := .session .i1
      linkNotice := true
      notices := ⟨{ NoticeSet.empty with stall := some 0#32 }, NoticeSet.empty, { NoticeSet.empty with ready := true },
        NoticeSet.empty⟩ } } : State).nextSource = some (.session .i2) := by decide
theorem test_line_code : lineCode ⟨true, false, false⟩ = 4#3 ∧ lineCode ⟨false, true, true⟩ = 3#3 := by decide

/-! ### One step of each command -/

theorem test_pin_reset : (after .pinReset ready).nrstHigh = false := by decide
theorem test_nrst_release : (after (.nrstRelease true) State.reset).meter.windowExpiry = some 250#32 := by decide
theorem test_rdy_rise : (after .rdyFirstRise (readyLink { ControlLink.reset with rdyExpiry := some 1000#32 })).rdy = true := by decide
theorem test_advance_accepts : (after (.partTimeAdvance (.atOnce ⟨true, false, false⟩))
    { ready with contention := ⟨some 4#3, 3#3, none⟩ }).contention.accepted = 4#3 := by decide
theorem test_gap_falls : (after .interByteGapExpiry
    (readyLink { ready.link with framer := .kind, gap := some 1000#32 })).link.framer = .hunt := by decide
/-- Each device request, by one step. -/
theorem test_device_requests :
    (onLine (after (.hello toDevice) ready) =
      [0xC3#8, 0x81#8, 0x0E#8, 15#8, 0#8, 0#8, 0x56#8, 0x41#8, 0x32#8, 0x34#8, 0x11#8, 4#8, 8#8, 4#8, 12#8, 0xE8#8, 0x03#8, 0#8,
      0#8, 0xB3#8]) ∧
    ((after (.configure toDevice { plainConfig with slotCount := 9#8 }) ready).settings.slotCount = 4) ∧
    (((after (.resetSessions toDevice) (readyWith playing)).session .i0).state = .closed) ∧
    ((after (.resetAll toDevice) { ready with arbiter := { ready.arbiter with hold := true } }).arbiter.hold
      = false) ∧
    ((after (.grantHold toDevice) ready).arbiter.hold = true) ∧
    ((after (.grantHoldRelease toDevice)
      { readyWith (inState .priming) with arbiter := ⟨Four.const none, [⟨.i0, false⟩], true, Four.const none⟩ }).arbiter.queue = []) ∧
    ((onLine (after (.queryLink toDevice) ready)).length = 35) ∧
    (onLine (after (.history toDevice 0#8 3#8) ready) =
      [0xC3#8, 0x86#8, 0x0E#8, 3#8, 0#8, 0#8, 0#8, 0x97#8]) := by
  decide +kernel
theorem test_open_of_104_bitrates : ReqKind.openSession.requiredLength [1#8, 104#8] = some 240 := by decide
theorem test_open_of_105_bitrates : ReqKind.openSession.requiredLength [1#8, 105#8] = none := by decide
/-- Each session request, by one step. -/
theorem test_session_requests :
    (((after (.openSession toZero liveOpen) ready).session .i0).fetch.map (·.tag) = some 1#8) ∧
    (((after (.closeSession toZero) (readyWith fetching)).session .i0).fetch = none) ∧
    (((after (.play toZero) (readyWith (inState .paused))).session .i0).stallExpiry = some 7000#32) ∧
    (((after (.pause toZero) (readyWith playing)).session .i0).state = .paused) ∧
    ((onLine (after (.play (clean 0x0F#8)) (readyWith playing)))[6]? = some 1#8) ∧
    (((after (.seek toZero 5#32) (readyWith playing)).session .i0).autostart = true) ∧
    (((after (.limits toZero 9#8 9#8 99#8) (readyWith playing)).session .i0).weight = 15) ∧
    (((after (.playout toZero 0#32) (readyWith playing)).session .i0).state = .stalled) ∧
    (((after (.edge toZero 12#32) (readyWith { playing with live := true })).session .i0).liveEdge = 12) ∧
    ((onLine (after (.querySession toZero) (readyWith fetching))).length = 97) := by
  decide +kernel
/-- Each fetch report, by one step. -/
theorem test_fetch_reports :
    (((after (.fetchStart toZero 7#8 300#32) (readyWith { playing with
      fetch := some { fetch0 with state := .ordered } })).session .i0).fetch.map (·.expected) = some 300) ∧
    ((after (.fetchProgress toZero 7#8 1000#32) (readyWith fetching)).meter.bytes = 0) ∧
    (((after (.fetchDone toZero 7#8 500000#32) (readyWith fetching)).session .i0).storedLevel = 10000) ∧
    (((after (.fetchFail toZero 7#8 1#8) (readyWith fetching)).session .i0).attempts = 1) := by
  decide +kernel
/-- Each expiry of a session and the window, by one step. -/
theorem test_expiries :
    (((after (.activityExpiry .i0) (readyWith fetching)).session .i0).attempts = 1) ∧
    (((after (.stallExpiry .i0) (readyWith { playing with stallExpiry := some 1000#32 })).session
      .i0).stallCount = 1) ∧
    (((after (.lowExpiry .i0) (readyWith { playing with lowExpiry := some 1000#32 })).session
      .i0).lowExpiry = none) ∧
    (((after (.refillExpiry .i0) (readyWith { playing with
      refillExpiry := some 1000#32 })).session .i0).fetch.isSome = true) ∧
    ((after .windowExpiry { ready with meter := { ready.meter with
      windowExpiry := some 1000#32, bytes := 50000, busyStored := 200 } }).meter.fast = 2000) ∧
    ((((after .windowExpiry windowLink).session .i0).fetch.map fun f =>
      (f.tag, f.rung, f.replacementMark)) = some (8#8, 0, true)) ∧
    (let t := contested.considerPreemption .i1
     (t.notices .i0).cancel = some ⟨7#8, .preempt⟩ ∧ (t.session .i1).fetch.isSome = true ∧ t.arbiter.queue = [⟨.i0, false⟩]) := by
  decide +kernel
/-- A line that is sending a notice while a CANCEL, a STALL and LINK wait (R181, R174). -/
def noticesWait : ControlLink :=
  { ready.link with
    tx := .notice [1#8]
    linkNotice := true
    notices := Four.set (Four.const NoticeSet.empty) .i0
      { NoticeSet.empty with cancel := some ⟨7#8, .timeout⟩, stall := some 1000#32 } }

/-- A RESET or CLOSE clears what is pending and leaves the frame being sent; a CANCEL is begun by FRAME_SENT, or cleared by a
RESET taken before it; a LINK waits for the first reply; an advance begins what an idle transmitter has left (R174,
R180, R181). -/
theorem test_pending_notices :
    (let t := after (.resetAll toDevice) { readyWith playing with link := noticesWait }
     t.notices .i0 = NoticeSet.empty ∧ t.link.linkNotice = false ∧ t.link.tx = .notice [1#8]) ∧
    (let t := after (.closeSession toZero) { readyWith playing with link := noticesWait }
     t.notices .i0 = NoticeSet.empty ∧ t.link.linkNotice = true ∧ t.link.tx = .notice [1#8]) ∧
    (let t := after (.resetAll toDevice) (after (.activityExpiry .i0) { readyWith { fetching with attempts := 2 } with
      arbiter := { ready.arbiter with hold := true } })
     t.notices .i0 = NoticeSet.empty ∧ (onLine t)[1]? = some 0x83#8) ∧
    ((onLine (after .frameSent (after (.activityExpiry .i0) { readyWith fetching with
      arbiter := { ready.arbiter with hold := true } })))[1]? = some 0x41#8) ∧
    (let s := readyLink { ready.link with linkNotice := true, replyBegun := false }
     after .frameSent s = s ∧ (onLine (after (.hello toDevice) s))[1]? = some 0x81#8 ∧
       (onLine (after .frameSent (after (.hello toDevice) s)))[1]? = some 0x4F#8) ∧
    (let t := after (.hello toDevice) (readyLink { ready.link with linkNotice := true })
     (onLine t)[1]? = some 0x4F#8 ∧ t.link.replies.length = 1) ∧
    ((onLine (after (.partTimeAdvance (.hold ⟨false, false, false⟩))
      (readyLink { ready.link with linkNotice := true })))[1]? = some 0x4F#8) := by
  decide +kernel
/-- The one slot is held by session 0, which is not urgent; sessions 1, not urgent, and 2 wait, and session 2's low expiry is
due. -/
def crowded : State :=
  { contested with
    sessions := Four.set (Four.set contested.sessions .i1 { playing with storedLevel := 8000 }) .i2
      { playing with storedLevel := 4999, lowExpiry := some 1000#32 }
    arbiter := { contested.arbiter with queue := [⟨.i1, false⟩, ⟨.i2, false⟩] } }

/-- A low expiry preempts; after a DONE of the holder at its part time it does not (R142); and a holder below L is barred
before its low expiry is taken (R132, R139). -/
theorem test_preemption_cases :
    ((after (.lowExpiry .i2) crowded).session .i2).fetch.isSome = true ∧
    (let t := after (.fetchDone toZero 7#8 500000#32) crowded
     (t.session .i1).fetch.isSome = true ∧ ((after (.lowExpiry .i2) t).session .i1).fetch.isSome = true ∧
       ((after (.lowExpiry .i2) t).session .i2).fetch = none) ∧
    (contested.withSession .i0 { fetching with storedLevel := 4999, lowExpiry := some 1000#32 }).victimSlot = none := by
  decide +kernel
theorem test_frame_sent : (after .frameSent (readyLink { ready.link with tx := .notice [1#8] })).link.tx = .idle := by decide
theorem test_character : (after (.characterReceived true 0xC3#8) ready).link.gap = some 1011#32 := by decide

/-! ### The hypotheses of the statements are met

One theorem for each statement that has hypotheses, clause by clause at the edges where a clause has a range. -/

theorem met_StepRunsFrontElseIdles : ({ ready with pending := [Instr.pinReset] } : State).pending = .pinReset :: [] ∧
    ready.pending = [] := ⟨rfl, rfl⟩
theorem met_NrstReleaseStartsPart : State.reset.nrstHigh = false ∧ ready.nrstHigh = true := ⟨rfl, rfl⟩
theorem met_RdyRisesAtItsExpiry : (readyLink { ControlLink.reset with rdyExpiry := some 1000#32 }).nrstHigh = true ∧
    (readyLink { ControlLink.reset with rdyExpiry := some 1000#32 }).link.rdyExpiry = some ready.partTime := ⟨rfl, rfl⟩
theorem met_NoEventWhileNrstLow : State.reset.nrstHigh = false ∧ Instr.frameSent ≠ .pinReset ∧
    ∀ b, Instr.frameSent ≠ .nrstRelease b := ⟨rfl, by decide, fun b => by cases b <;> decide⟩
theorem met_BytesIgnoredBeforeRdy : State.reset.link.rdyRisen = false ∧
    requestOf (.hello toDevice) = some (.hello, toDevice, []) := ⟨rfl, rfl⟩
theorem ready_due : ready.link.gap ≠ some ready.partTime ∧ ready.link.rdyExpiry ≠ some ready.partTime ∧
    ready.meter.windowExpiry ≠ some ready.partTime ∧ ∀ i, (ready.session i).stallExpiry ≠ some ready.partTime ∧
      (ready.session i).lowExpiry ≠ some ready.partTime ∧ (ready.session i).refillExpiry ≠ some ready.partTime ∧
      ∀ f, (ready.session i).fetch = some f → f.activityExpiry ≠ ready.partTime := by
  refine ⟨by decide, by decide, by decide, fun i => ?_⟩
  cases i <;> exact ⟨by decide, by decide, by decide, fun f hf => nomatch hf⟩
theorem ready_nothingDue (c : ContentionInput) (h : c.held = none) : ({ ready with contention := c } : State).nothingDue :=
  ⟨⟨ready_due.1, ready_due.2.1, ready_due.2.2.1, h, fun i => ready_due.2.2.2 i⟩, ready_served _ rfl⟩
theorem met_AdvanceDealsWithSample : ∀ c ∈ [(⟨none, 0#3, none⟩ : ContentionInput), ⟨some 1#3, 0#3, none⟩, ⟨some 4#3, 4#3, none⟩,
    ⟨some 4#3, 0#3, none⟩, ⟨some 4#3, 7#3, none⟩], ({ ready with contention := c } : State).nrstHigh = true ∧
      ({ ready with contention := c } : State).nothingDue ∧ ({ ready with contention := c } : State).link.tx = .idle := by
  intro c hc
  refine ⟨rfl, ready_nothingDue c ?_, rfl⟩
  revert c; decide
theorem met_HeldSampleSettlesAlike : ready.nrstHigh = true ∧ ready.nothingDue := ⟨rfl, ready_nothingDue _ rfl⟩
theorem met_ReceiverTakesByte : ready.nrstHigh = true ∧ ready.link.rdyRisen = true ∧ ready.link.framer = .hunt ∧
    ∀ f, (readyLink { ready.link with framer := f }).link.framer = f := ⟨rfl, rfl, rfl, fun _ => rfl⟩

/-- Four replies, the oldest in transmission. -/
def fullLink : ControlLink :=
  { ready.link with
    framer := .sum 0x01#8 0x0E#8 0#8 []
    replies := List.replicate 4 (replyTo .hello 0x0E#8 .ok [])
    tx := .reply [] }

theorem met_CompleteFrameChecks : 4 ≤ (readyLink fullLink).link.replies.length ∧ (readyLink fullLink).link.tx ≠ .idle ∧
    (readyLink { fullLink with replies := List.replicate 3 (replyTo .hello 0x0E#8 .ok []) }).link.replies.length < 4 ∧
    (∀ q : ReqKind, q.code ≠ 0x07#8) ∧ ReqKind.requiredLength .reset [] ≠ some (0#8).toNat ∧
    requestOf (.hello toDevice) = some (.hello, toDevice, []) ∧ ReqKind.hello.code = 0x01#8 ∧ toDevice.target = 0x0E#8 ∧
    (0#8 : Byte).toNat = ([] : List Byte).length ∧ (3#8 : Byte) ≠ 2#8 ∧ (2#8 : Byte) ≠ 1#8 :=
  ⟨by decide, by decide, by decide, fun q => by cases q <;> decide, by decide, rfl, rfl, rfl, rfl, by decide, by decide⟩
theorem met_RefusedFramesChangeNothing : ready.linkReady ∧ (Instr.hello ⟨0x0E#8, 1#8⟩).wellFormed = true ∧
    requestOf (.hello ⟨0x0E#8, 1#8⟩) = some (.hello, ⟨0x0E#8, 1#8⟩, []) ∧
    ReqKind.requiredLength .hello [] = some 0 ∧ ReqKind.hello.validTarget 0x0D#8 = false ∧
    ReqKind.closeSession.validTarget 0x04#8 = false ∧ ReqKind.play.validTarget 0x0E#8 = false ∧
    ({ liveOpen with rungCount := 2#8 } : OpenFields).rungCount.toNat ≠ liveOpen.bitrates.length ∧
    ¬ 240 < 32 + 2 * (List.replicate 104 1#16).length ∧ 240 < 32 + 2 * (List.replicate 105 1#16).length :=
  ⟨ready_linkReady, rfl, rfl, rfl, by decide, by decide, by decide, by decide, by decide, by decide⟩
theorem met_FrameSentTakesOldestReply : (readyLink fullLink).nrstHigh = true ∧ (readyLink fullLink).link.tx = .reply [] ∧
    ∃ r first rest, (readyLink fullLink).link.replies = r :: first :: rest := ⟨rfl, rfl, _, _, _, rfl⟩

/-- Session 0 has the turn when nothing else is pending. -/
theorem only_source_has_turn (s : State) (tx : Transmitter) (n : NoticeSet) (h : n ≠ NoticeSet.empty) :
    ({ s with link := { ready.link with tx := tx, notices := Four.set (Four.const NoticeSet.empty) .i0 n } } :
      State).hasTurn (.session .i0) := by
  refine ⟨decide_eq_true h, fun other ho => ?_⟩
  rcases other with _ | i
  · exact absurd ho Bool.false_ne_true
  · cases i
    · exact le_refl _
    all_goals exact absurd ho Bool.false_ne_true

/-- The end of a notice with the pending set of session 0 given. -/
def noticeEnds (n : NoticeSet) : State :=
  readyLink { ready.link with tx := .notice [], notices := Four.set (Four.const NoticeSet.empty) .i0 n }

theorem noticeEnds_turn (n : NoticeSet) (h : n ≠ NoticeSet.empty) : (noticeEnds n).hasTurn (.session .i0) :=
  only_source_has_turn ready (.notice []) n h
/-- An idle transmitter with the pending set of session 0 given. -/
def noticeWaits (n : NoticeSet) : State :=
  { readyWith playing with link := { ready.link with notices := Four.set (Four.const NoticeSet.empty) .i0 n } }

theorem noticeWaits_turn (n : NoticeSet) (h : n ≠ NoticeSet.empty) : (noticeWaits n).hasTurn (.session .i0) :=
  only_source_has_turn (readyWith playing) .idle n h
theorem noticeWaits_open (n : NoticeSet) : (noticeWaits n).linkOpen := ⟨rfl, rfl, rfl, rfl, Nat.zero_lt_succ _⟩
/-- An advance, an expiry that is due and a request that clears nothing come after the choice of an idle transmitter. -/
theorem met_followsChoice (n : NoticeSet) : (noticeWaits n).nrstHigh = true ∧ (noticeWaits n).link.tx = .idle ∧
    (noticeWaits n).followsChoice (.partTimeAdvance (.atOnce ⟨false, false, false⟩)) ∧
    ({ noticeWaits n with meter := { ready.meter with windowExpiry := some 1000#32 } } : State).followsChoice .windowExpiry ∧
    (noticeWaits n).followsChoice (.querySession toZero) := by
  refine ⟨rfl, rfl, trivial, rfl, noticeWaits_open n, rfl, fun k w p src hk _ hc => ?_⟩
  cases hk
  rcases hc with ⟨_, ⟨h, _⟩ | ⟨h, _⟩⟩ <;> cases h
theorem met_FrameSentSendsNotice : (∀ n, (noticeEnds n).nrstHigh = true ∧ (noticeEnds n).link.tx = .notice [] ∧
      (noticeEnds n).link.replyBegun = true ∧ (noticeEnds n).link.replies = [] ∧ (noticeEnds n).notices .i0 = n) ∧
    (∀ src, (noticeEnds NoticeSet.empty).hasNotice src = false) ∧
    (∀ n ∈ [(⟨some ⟨1#8, .abandon⟩, false, false, none, false, false⟩ : NoticeSet), ⟨none, true, false, none, false, false⟩,
      ⟨none, false, true, none, false, false⟩, ⟨none, false, false, some 0#32, false, false⟩,
      ⟨none, false, false, none, true, false⟩, ⟨none, false, false, none, false, true⟩], n ≠ NoticeSet.empty) ∧
    (readyLink { ready.link with linkNotice := true }).link.tx = .idle ∧
    (readyLink { ready.link with replyBegun := false }).link.replyBegun = false ∧
    (readyLink { ready.link with tx := .notice [], linkNotice := true }).hasTurn .device := by
  refine ⟨fun n => ⟨rfl, rfl, rfl, rfl, rfl⟩, fun src => ?_, by decide, rfl, rfl, by decide, fun other ho => ?_⟩
  · rcases src with _ | i
    · rfl
    · cases i <;> decide
  · rcases other with _ | i
    · exact le_refl _
    · cases i <;> exact absurd ho (by decide)
theorem met_HelloReportsPart : ready.linkReady := ready_linkReady
theorem met_ConfigureClampsOrBusy : (∀ i, (ready.session i).fetch = none) ∧ (readyWith fetching).linkReady ∧
    ((readyWith fetching).session .i0).fetch ≠ none ∧ max 1 (min 4 (3#8 : Byte).toNat) ≠ (readyWith fetching).settings.slotCount :=
  ⟨fun i => by cases i <;> rfl, readyWith_linkReady _, by decide, by decide⟩
theorem ready_slotsConsistent : SlotsConsistent ready := by
  refine ⟨⟨fun i h => ?_, fun i _ => ?_, fun i h => ?_, by decide⟩, ⟨fun i f h => ?_, fun k h hk => ?_, fun k _ => ?_⟩⟩
  · cases i <;> exact absurd h (by decide)
  · cases i <;> exact ⟨rfl, rfl⟩
  · cases i <;> exact absurd h (by decide)
  · cases i <;> exact absurd h (by simp [ready, State.reset, State.session, Session.blank])
  · cases k <;> exact absurd hk (by simp [ready, State.reset])
  · cases k <;> rfl
theorem noticeWaits_slots (n : NoticeSet) : SlotsConsistent (noticeWaits n) := by
  refine ⟨⟨fun i h => ?_, fun i h => ?_, fun i h => ?_, List.nodup_nil⟩, ⟨fun i f h => ?_, fun k h hk => ?_, fun k _ => ?_⟩⟩
  · exact absurd h Bool.false_ne_true
  · cases i <;> exact ⟨rfl, rfl⟩
  · cases i <;> cases h
  · cases i <;> cases h
  · cases k <;> cases hk
  · cases k <;> rfl
theorem met_ResetSessionsClosesAll : ready.linkOpen ∧ ready.transmitterServed ∧ SlotsConsistent ready ∧
    ActiveCountMatches ready ∧ ∀ n : NoticeSet, (noticeWaits n).linkOpen ∧
      (n ≠ NoticeSet.empty → (noticeWaits n).hasTurn (.session .i0)) ∧ SlotsConsistent (noticeWaits n) ∧
      ActiveCountMatches (noticeWaits n) :=
  ⟨ready_linkOpen, ready_served _ rfl, ready_slotsConsistent, by unfold ActiveCountMatches; decide, fun n =>
    ⟨noticeWaits_open n, noticeWaits_turn n, noticeWaits_slots n, rfl⟩⟩
theorem met_ResetAllClearsEstimator : ∀ n : NoticeSet, (noticeWaits n).linkOpen ∧ SlotsConsistent (noticeWaits n) ∧
    ActiveCountMatches (noticeWaits n) := fun n => ⟨noticeWaits_open n, noticeWaits_slots n, rfl⟩
theorem met_GrantHoldAndRelease : ready.linkReady ∧ ready.arbiter.hold = false ∧
    ({ ready with arbiter := { ready.arbiter with hold := true } } : State).arbiter.hold = true := ⟨ready_linkReady, rfl, rfl⟩
theorem met_QueryLinkReports : ready.linkReady ∧ ready.meter.windowExpiry = some 1250#32 := ⟨ready_linkReady, rfl⟩
theorem met_HistoryReadsRing : ready.linkReady ∧ ready.meter.ring.length = 0 ∧
    (let m := ({ ready.meter with ring := [⟨0#32, 1, 20, 0#3, 1⟩, ⟨1#32, 1, 20, 0#3, 1⟩] } : LinkMeter).ring.length
     m ≤ (2#8 : Byte).toNat ∧ (1#8 : Byte).toNat < m ∧ m < (2#8 : Byte).toNat + 1 ∧ (1#8 : Byte).toNat + 1 ≤ m) :=
  ⟨ready_linkReady, rfl, by decide⟩
theorem met_ClosedSessionAnswersNotOpen : ready.linkReady ∧ (ready.session .i3).state = .closed ∧
    requestOf (.closeSession (clean (sessionByte .i3))) = some (.closeSession, clean (sessionByte .i3), []) ∧
    ReqKind.closeSession.validTarget (sessionByte .i3) = true := ⟨ready_linkReady, rfl, rfl, by decide⟩
theorem met_OpenRefusals : (readyWith playing).linkReady ∧ ((readyWith playing).session .i0).state ≠ .closed ∧
    (ready.session .i0).state = .closed ∧ 32 + 2 * liveOpen.bitrates.length ≤ 240 ∧
    openDefect { liveOpen with bitrates := [31#16] } ∧ openDefect { liveOpen with mode := 2#8 } ∧
    openDefect { liveOpen with bitrates := [600#16, 600#16] } :=
  ⟨readyWith_linkReady _, by decide, rfl, by decide, .inr (.inr (.inl ⟨31#16, by decide, by decide⟩)),
    .inr (.inr (.inr (.inr (.inl (by decide))))), .inr (.inr (.inr (.inl ⟨0, 600#16, 600#16, rfl, rfl, by decide⟩)))⟩
theorem liveOpen_sound : ¬ openDefect liveOpen := by
  simp only [openDefect, not_or, not_exists, not_and]
  refine ⟨by decide, by decide, fun b hb => ?_, fun k lo hi h1 h2 => ?_, by decide, by decide, by decide, by decide⟩
  · simp only [liveOpen, List.mem_singleton] at hb; subst hb; decide
  · simp [liveOpen] at h2
theorem met_OpenWritesRecord : ready.linkReady ∧ liveOpen.rungCount.toNat = liveOpen.bitrates.length ∧
    (ready.session .i0).state = .closed ∧ ¬ openDefect liveOpen := ⟨ready_linkReady, rfl, rfl, liveOpen_sound⟩
theorem met_OpenIsGrantedAtOnce : ready.linkReady ∧ ready.arbiter.queue = [] ∧ ready.arbiter.hold = false ∧
    ready.contention.accepted ≠ 7#3 ∧ Idx4.i0.toNat < ready.settings.slotCount ∧ ready.arbiter.slots.get .i0 = none ∧
    (∀ j : SlotId, j.toNat < Idx4.i0.toNat → ready.arbiter.slots.get j ≠ none) ∧
    (let held : Four (Option SlotHolder) := Four.set (Four.const none) .i0 (some ⟨.i3, 0#32⟩)
     held.get .i1 = none ∧ ∀ j : SlotId, j.toNat < Idx4.i1.toNat → held.get j ≠ none) :=
  ⟨ready_linkReady, rfl, rfl, by decide, by decide, rfl, fun j h => absurd h (Nat.not_lt_zero _), rfl,
    fun j h => by cases j <;> first | exact absurd h (by decide) | decide⟩
theorem met_CloseShutsSession : (readyWith fetching).linkOpen ∧ (readyWith fetching).transmitterServed ∧
    ((readyWith fetching).session .i0).state ≠ .closed ∧ ∀ n : NoticeSet, (noticeWaits n).linkOpen ∧
      ((noticeWaits n).session .i0).state ≠ .closed ∧ (n ≠ NoticeSet.empty → (noticeWaits n).hasTurn (.session .i0)) :=
  ⟨ready_linkOpen, ready_served _ rfl, by decide, fun n => ⟨noticeWaits_open n, fun h => (nomatch h), noticeWaits_turn n⟩⟩
theorem met_PlayByState : ∀ (st : SessionState) (level : Nat) (af : Bool),
    (readyWith { inState st with storedLevel := level, allFetched := af }).linkReady ∧
    ((readyWith { inState st with storedLevel := level, allFetched := af }).session .i0).state = st ∧
    ((readyWith { inState st with storedLevel := level, allFetched := af }).session .i0).storedLevel = level ∧
    ((readyWith { inState st with storedLevel := level, allFetched := af }).session .i0).allFetched = af :=
  fun _ _ _ => ⟨readyWith_linkReady _, rfl, rfl, rfl⟩
theorem met_PauseByState : ∀ st : SessionState, (readyWith (inState st)).linkReady ∧
    ((readyWith (inState st)).session .i0).state = st := fun _ => ⟨readyWith_linkReady _, rfl⟩
theorem met_BroadcastReachesEverySession : (readyWith playing).linkReady := readyWith_linkReady _
theorem met_SeekReturnsToPriming : (readyWith playing).linkReady ∧ ((readyWith playing).session .i0).state ≠ .closed ∧
    (playing.live = false ∧ ∃ l, playing.lastSegment = some l ∧ l < (10#32).toNat) ∧
    ¬ (playing.live = false ∧ ∃ l, playing.lastSegment = some l ∧ l < (9#32).toNat) := by
  refine ⟨readyWith_linkReady _, by decide, ⟨rfl, 9, rfl, by decide⟩, ?_⟩
  rintro ⟨_, l, h, hl⟩
  cases h
  exact absurd hl (by decide)
theorem met_LimitsClamped : (readyWith playing).linkReady ∧ ((readyWith playing).session .i0).state ≠ .closed :=
  ⟨readyWith_linkReady _, by decide⟩
theorem met_PlayoutWritesLevel : (∀ st, (readyWith (inState st)).linkReady ∧ ((readyWith (inState st)).session .i0).state = st) ∧
    playing.markS0 ≤ min (8000#32).toNat 120000 ∧ ¬ playing.markS0 ≤ min (7999#32).toNat 120000 ∧
    min (0#32).toNat 120000 = 0 ∧ playing.allFetched = false ∧ ({ playing with allFetched := true } : Session).allFetched = true :=
  ⟨fun _ => ⟨readyWith_linkReady _, rfl⟩, by decide, by decide, rfl, rfl, rfl⟩
theorem met_EdgeOnlyRises : (readyWith playing).linkReady ∧ playing.live = false ∧
    ({ playing with live := true, liveEdge := 5 } : Session).live = true ∧ (5#32).toNat ≤ 5 ∧ 5 < (6#32).toNat :=
  ⟨readyWith_linkReady _, rfl, rfl, by decide, by decide⟩
theorem met_QuerySessionReports : ready.linkReady ∧ (readyWith fetching).linkReady := ⟨ready_linkReady, readyWith_linkReady _⟩
theorem met_StaleReportsRefused : (readyWith fetching).linkReady ∧ ((readyWith fetching).session .i0).state ≠ .closed ∧
    (∀ f, ((readyWith fetching).session .i0).fetch = some f → f.tag ≠ 8#8) ∧
    ∀ f, ((readyWith playing).session .i0).fetch = some f → f.tag ≠ 7#8 := by
  refine ⟨readyWith_linkReady _, by decide, fun f h => ?_, fun f h => ?_⟩ <;> cases h
  decide
theorem met_StartActivatesRecord : (readyWith fetching).linkReady ∧ ((readyWith fetching).session .i0).fetch = some fetch0 ∧
    fetch0.state = .active ∧ ({ fetch0 with state := .ordered } : FetchRecord).state = .ordered :=
  ⟨readyWith_linkReady _, rfl, rfl, rfl⟩
theorem met_ProgressCountsBytes : (readyWith fetching).linkReady ∧ ((readyWith fetching).session .i0).fetch = some fetch0 ∧
    (1000#32).toNat ≤ fetch0.received ∧ fetch0.received < (1001#32).toNat ∧ fetch0.expected ≤ (500000#32).toNat :=
  ⟨readyWith_linkReady _, rfl, by decide, by decide, by decide⟩

/-- The examined record: 2000 bytes of X received. -/
def examined (x : Nat) : FetchRecord := { fetch0 with received := 2000, expected := x }

/-- Each way an examination ends, at the share of 100: kept with the remaining time within the level; the highest lower rung
that serves; the floor though it takes longer than the level; kept because the floor takes as long; and kept at share 0. -/
theorem met_ProgressMayAbandon :
    (let s := slow { playing with fetch := some (examined 77000) }
     s.share .i0 = 100 ∧ ((77000 - 2000) * 8 + 99) / 100 = s.level .i0 ∧ s.examine .i0 = none) ∧
    (let s := slow { playing with segmentMs := 1200, fetch := some (examined 77001) }
     s.level .i0 < ((77001 - 2000) * 8 + 99) / 100 ∧ ((s.session .i0).predictedSize 0 * 8 + 99) / 100 = s.level .i0 ∧
     s.examine .i0 = some 0) ∧
    (let s := slow { playing with fetch := some (examined 252001) }
     ((s.session .i0).predictedSize 0 * 8 + 99) / 100 < ((252001 - 2000) * 8 + 99) / 100 ∧ s.examine .i0 = some 0) ∧
    (let s := slow { playing with fetch := some (examined 252000) }
     ((s.session .i0).predictedSize 0 * 8 + 99) / 100 = ((252000 - 2000) * 8 + 99) / 100 ∧ s.examine .i0 = none) ∧
    (let s := { slow { playing with fetch := some (examined 252001) } with contention := ⟨none, 7#3, none⟩ }
     s.share .i0 = 0 ∧ s.examine .i0 = none) ∧
    slowLink.linkReady ∧ (slowLink.session .i0).state ≠ .closed ∧ (slowLink.session .i0).fetch = some fetch0 ∧
    fetch0.received < (2000#32).toNat :=
  ⟨by decide +kernel, by decide +kernel, by decide +kernel, by decide +kernel, by decide +kernel,
    readyWith_linkReady fetching, by decide, rfl, by decide⟩
theorem met_DoneCompletesFetch : (readyWith fetching).linkReady ∧ ((readyWith fetching).session .i0).state ≠ .closed ∧
    ((readyWith fetching).session .i0).fetch = some fetch0 ∧
    (∀ e ∈ ((readyWith fetching).session .i0).ladder, 64 ≤ e.ratio ∧ e.ratio ≤ 1023) ∧
    (readyWith fetching).urgent .i0 = false ∧ fetch0.received * 4 < fetch0.expected :=
  ⟨readyWith_linkReady _, by decide, rfl, by decide, by decide, by decide⟩
theorem met_FailIsHandled : (readyWith fetching).linkReady ∧ ((readyWith fetching).session .i0).fetch = some fetch0 ∧
    1 ≤ (1#8 : Byte).toNat ∧ (3#8 : Byte).toNat ≤ 3 ∧ 3 < (4#8 : Byte).toNat ∧ (0#8 : Byte).toNat = 0 :=
  ⟨readyWith_linkReady _, rfl, by decide, by decide, by decide, rfl⟩
theorem met_EndingPathSteps : ((readyWith fetching).session .i0).fetch = some fetch0 ∧
    ((readyWith playing).session .i0).fetch = none := ⟨rfl, rfl⟩
theorem met_ActivityExpiryFails : (readyWith fetching).nrstHigh = true ∧ (readyWith fetching).transmitterServed ∧
    ((readyWith fetching).session .i0).fetch = some fetch0 ∧ fetch0.activityExpiry = (readyWith fetching).partTime :=
  ⟨rfl, ready_served _ rfl, rfl, rfl⟩
theorem met_StallExpiryStallsOrEnds : ∀ af : Bool,
    (readyWith { playing with stallExpiry := some 1000#32, allFetched := af }).transmitterServed ∧
    ((readyWith { playing with stallExpiry := some 1000#32, allFetched := af }).session .i0).stallExpiry = some ready.partTime ∧
    ((readyWith { playing with stallExpiry := some 1000#32, allFetched := af }).session .i0).allFetched = af :=
  fun _ => ⟨ready_served _ rfl, rfl, rfl⟩
theorem met_LowAndRefillExpiries : (∀ r, (readyWith r).transmitterServed) ∧
    ((readyWith { playing with lowExpiry := some 1000#32 }).session .i0).lowExpiry = some ready.partTime ∧
    ((readyWith { playing with refillExpiry := some 1000#32 }).session .i0).refillExpiry = some ready.partTime :=
  ⟨fun _ => ready_served _ rfl, rfl, rfl⟩
theorem met_WindowExpirySamples :
    let at' := fun (busy age : Nat) =>
      ({ ready with meter := { ready.meter with windowExpiry := some 1000#32, busyStored := busy, age := age } } : State)
    (∀ b a, (at' b a).meter.windowExpiry = some (at' b a).partTime ∧ (at' b a).transmitterServed) ∧
    250 / 2 ≤ (at' 125 0).meter.busyAt 1000#32 ∧ ¬ 250 / 2 ≤ (at' 124 0).meter.busyAt 1000#32 ∧ (at' 20 7).meter.age + 1 = 8 ∧
    20 ≤ (at' 20 7).meter.busyAt 1000#32 ∧ ¬ 20 ≤ (at' 19 7).meter.busyAt 1000#32 ∧
    (let m := (windowLink.meter.endWindow windowLink.settings 0#3 1000#32).armWindow windowLink.settings 1000#32
     ({ windowLink with meter := m } : State).examine .i0 = some 0) ∧ ∀ i, (at' 125 0).examine i = none :=
  ⟨fun _ _ => ⟨rfl, ready_served _ rfl⟩, by decide, by decide, rfl, by decide, by decide, by decide +kernel, fun i => by cases i <;> rfl⟩
theorem met_OnlyDueExpiriesFall : ready.nrstHigh = true ∧
    (readyLink { ready.link with framer := .kind, gap := some 1000#32 }).link.gap = some ready.partTime ∧ ready.nothingDue :=
  ⟨rfl, rfl, ready_nothingDue _ rfl⟩
theorem met_LevelExpiriesArmed : playing.state = .playing ∧ 0 < playing.storedLevel ∧ playing.markL ≤ playing.storedLevel ∧
    ({ playing with storedLevel := 4999 } : Session).storedLevel < playing.markL ∧
    playing.markH - playing.segmentMs < ({ playing with storedLevel := 16001 } : Session).storedLevel ∧
    ({ playing with storedLevel := 16000 } : Session).storedLevel ≤ playing.markH - playing.segmentMs := by decide
theorem met_LinkEstimateFormula : ready.settings.inRange ∧
    ({ ready with contention := ⟨none, 7#3, none⟩ } : State).contention.accepted = 7#3 := by
  refine ⟨⟨by decide, by decide, by decide, by decide, by decide, by decide, by decide, by decide, by decide, ?_⟩, rfl⟩
  decide
theorem met_SharesAndPredictions : 0 < ready.estimate := by decide
theorem met_RatiosLearnAndLend : (playing.ladder[1]? = some ⟨1000, 256, false⟩) ∧ 64 ≤ 64 ∧ 1023 ≤ 1023 ∧
    ([⟨1, 300, true⟩, ⟨2, 256, false⟩] : List Rung)[0]? = some ⟨1, 300, true⟩ := by decide
theorem met_RungDecision : playing.floor ≤ playing.cap ∧
    ({ playing with rungLimit := some (.exact 0) } : Session).rungLimit = some (.exact 0) := by decide
theorem contested_notForestalled : ¬ contested.doneForestalls := by
  rintro ⟨k, g, h, _⟩
  cases k <;> cases h
theorem contested_forestalled : ({ contested with arbiter := { contested.arbiter with
    doneGrants := Four.set (Four.const none) .i0 (some 900#32) } } : State).doneForestalls := by
  refine ⟨.i0, 900#32, rfl, ⟨by decide, .inl rfl⟩, fun j g' hj hne => ?_⟩
  rcases hj with ⟨h, _⟩
  cases j
  · exact absurd rfl hne
  all_goals exact absurd h (by decide)
theorem met_SelectionAndVictim : ready.arbiter.queue = [] ∧ (readyWith (inState .priming)).urgent .i0 = true ∧
    (readyWith playing).urgent .i0 = false ∧ fetch0.received * 4 < fetch0.expected ∧
    (readyWith playing).wants .i0 = true ∧ (readyWith playing).isQueued .i0 = false ∧
    contested.isQueued .i1 = true ∧ contested.urgent .i1 = true ∧ contested.settings.preemption = true ∧
    contested.arbiter.hold = false ∧ contested.contention.accepted ≠ 7#3 ∧ contested.freeSlot = none ∧
    (∀ e ∈ contested.arbiter.queue, e.preemptionUsed = false) ∧ contested.victimSlot = some .i0 ∧
    contested.arbiter.slots.get .i0 = some ⟨.i0, 900#32⟩ ∧ NothingToGrant contested ∧
    (contested.arbiter.queue.map (·.session)).Nodup ∧
    (let s := { contested with arbiter := { contested.arbiter with slots := Four.const none } }
     s.arbiter.slots.get .i0 = none ∧ s.selectEntry = some .i1) ∧ ¬ contested.doneForestalls ∧
    (let s := { contested with arbiter := { contested.arbiter with
       doneGrants := Four.set (Four.const none) .i0 (some 900#32) } }
     s.doneForestalls) ∧
    crowded.urgent .i2 = true ∧ crowded.toldUrgent .i2 = false ∧ contested.toldUrgent .i1 = true :=
  ⟨rfl, rfl, rfl, by decide, by decide, rfl, rfl, rfl, rfl, rfl, by decide, rfl, by decide, by decide +kernel, rfl, .inl rfl,
    by decide, ⟨rfl, by decide +kernel⟩, contested_notForestalled, contested_forestalled, by decide, by decide, by decide⟩
theorem met_FrameLayout : ([] : List Byte).length ≤ 255 ∧ (List.replicate 255 0#8).length ≤ 255 :=
  ⟨by decide, by rw [List.length_replicate]⟩

/-- A part at work: session 0 plays and its ACTIVE record holds slot 0; HELLO waits in the queue of commands. -/
def busyPart : State :=
  { readyWith { fetching with stallExpiry := some 7000#32, lowExpiry := some 2001#32 } with
    arbiter := ⟨Four.set (Four.const none) .i0 (some ⟨.i0, 900#32⟩), [], false, Four.const none⟩
    meter := { ready.meter with activeCount := 1, busyRef := 1000#32 }
    pending := [.hello toDevice] }

theorem busyPart_steps : ∃ t, step busyPart = .next t := ⟨_, rfl⟩
theorem busyPart_slots : SlotsConsistent busyPart := by
  refine ⟨⟨fun i h => ?_, fun i h => ?_, fun i h => ?_, List.nodup_nil⟩, ⟨fun i f h => ?_, fun k h hk => ?_, fun k hk => ?_⟩⟩
  · exact absurd h Bool.false_ne_true
  · cases i
    · rcases h with h | h | h <;> cases h
    all_goals exact ⟨rfl, rfl⟩
  · cases i <;> cases h
  · cases i <;> cases h
    rfl
  · cases k <;> cases hk
    exact ⟨_, rfl, rfl⟩
  · cases k
    · exact absurd hk (by decide)
    all_goals rfl
theorem met_LinkInvariantKept : RepliesFit busyPart ∧ TransmitterServes busyPart ∧ GapMatchesFramer busyPart ∧
    ∃ t, step busyPart = .next t := by
  refine ⟨by unfold RepliesFit; decide, ?_, ?_, busyPart_steps⟩
  · refine ⟨fun _ => rfl, fun _ => rfl, fun f h => ?_⟩
    cases h
  · exact ⟨fun _ => rfl, fun _ => rfl⟩
theorem replying_served : let r := replyTo .hello 0x0E#8 .ok []
    TransmitterServes (readyLink { ready.link with replies := [r], tx := .reply (r.frame false) }) := by
  intro r
  refine ⟨fun h => (nomatch h), fun h => (nomatch h), fun f h => ?_⟩
  cases h
  exact ⟨_, _, _, rfl, rfl⟩
theorem met_HeldWhileLowKept : HeldWhileLow State.reset ∧ ∃ t, step State.reset = .next t := ⟨fun _ => rfl, _, rfl⟩
theorem met_SlotsAndRecordsKept : SlotsConsistent busyPart ∧ ActiveCountMatches busyPart ∧ ∃ t, step busyPart = .next t :=
  ⟨busyPart_slots, by unfold ActiveCountMatches; decide, busyPart_steps⟩
theorem met_RecordsNameSegmentKept : RecordMatchesSession busyPart ∧ ∃ t, step busyPart = .next t := by
  refine ⟨fun i f h => ?_, busyPart_steps⟩
  cases i <;> cases h
  exact ⟨rfl, rfl⟩
theorem busyPart_expiries : ExpiriesMatch busyPart := by
  intro i
  cases i <;> exact ⟨by decide, by decide, by decide⟩
theorem busyPart_inOrder : OpenInOrder busyPart := by
  intro i h
  cases i
  · unfold Session.inOrder; decide
  all_goals cases h
theorem busyPart_ratios : RatiosInRange busyPart := by
  intro i
  cases i <;> decide
theorem busyPart_counts : CountsInRange busyPart := by
  refine ⟨met_LinkEstimateFormula.1, fun i => ?_, fun i => ?_, fun i => ?_, fun i => ?_, fun i => ?_, by decide, by decide,
    by decide, by decide⟩
  all_goals cases i <;> decide
theorem busyPart_inTime : ExpiriesInTime busyPart := by
  intro i h
  cases i
  · decide
  all_goals cases h
theorem busyPart_queue : QueueIsWanting busyPart := by
  intro i
  cases i <;> exact ⟨fun h => absurd h Bool.false_ne_true, fun h => absurd h (by decide)⟩
theorem met_LevelExpiriesKept : ExpiriesMatch busyPart ∧ ExpiriesInTime busyPart ∧ OpenInOrder busyPart ∧
    SlotsConsistent busyPart ∧ CountsInRange busyPart ∧ ∃ t, step busyPart = .next t :=
  ⟨busyPart_expiries, busyPart_inTime, busyPart_inOrder, busyPart_slots, busyPart_counts, busyPart_steps⟩
theorem met_NothingLeftToGrantKept : NothingToGrant busyPart ∧ SlotsConsistent busyPart ∧ busyPart.settings.inRange ∧
    QueueIsWanting busyPart ∧ ExpiriesInTime busyPart ∧ ExpiriesMatch busyPart ∧ OpenInOrder busyPart ∧
    CountsInRange busyPart ∧ ∃ t, step busyPart = .next t :=
  ⟨.inr (.inl rfl), busyPart_slots, met_LinkEstimateFormula.1, busyPart_queue, busyPart_inTime, busyPart_expiries,
    busyPart_inOrder, busyPart_counts, busyPart_steps⟩
theorem met_RangesKept : RatiosInRange busyPart ∧ CountsInRange busyPart ∧ OpenInOrder busyPart ∧ ExpiriesMatch busyPart ∧
    SlotsConsistent busyPart ∧ ∃ t, step busyPart = .next t :=
  ⟨busyPart_ratios, busyPart_counts, busyPart_inOrder, busyPart_expiries, busyPart_slots, busyPart_steps⟩

end Sys2Proof.Tests
end

/-! SUPPORT. What serving a request or taking an expiry may touch of the control link: the pending notices alone (R9, R14). -/

namespace Sys2Proof.Machine

open Sys2Proof

/-- All that the owners of the other blocks leave as it is: the pin, part time, the queue of commands and, of the control
link, everything but the pending notices (R14). -/
structure NoticesOnly (s t : State) : Prop where
  nrstHigh : t.nrstHigh = s.nrstHigh
  partTime : t.partTime = s.partTime
  pending : t.pending = s.pending
  link : t.link = { s.link with notices := t.link.notices, linkNotice := t.link.linkNotice }

namespace NoticesOnly

variable {s t u : State}

theorem refl (s : State) : NoticesOnly s s := ⟨rfl, rfl, rfl, rfl⟩

theorem trans (h : NoticesOnly s t) (k : NoticesOnly t u) : NoticesOnly s u :=
  ⟨k.nrstHigh.trans h.nrstHigh, k.partTime.trans h.partTime, k.pending.trans h.pending, k.link.trans (by rw [h.link])⟩

theorem ite {c : Prop} [Decidable c] (h : NoticesOnly s t) (k : NoticesOnly s u) : NoticesOnly s (if c then t else u) := by
  split <;> assumption

theorem foldl {α : Type} {f : State → α → State} (hf : ∀ t a, NoticesOnly t (f t a)) (l : List α) (s : State) :
    NoticesOnly s (l.foldl f s) := by
  induction l generalizing s with
  | nil => exact refl s
  | cons a l ih => exact (hf s a).trans (ih _)

/-- An act of the arbiter. -/
theorem ofArbiter (h : ArbiterOnly s t) : NoticesOnly s t := ⟨h.nrstHigh, h.partTime, h.pending, by rw [h.link]⟩

theorem framer (h : NoticesOnly s t) : t.link.framer = s.link.framer := by rw [h.link]
theorem gap (h : NoticesOnly s t) : t.link.gap = s.link.gap := by rw [h.link]
theorem replies (h : NoticesOnly s t) : t.link.replies = s.link.replies := by rw [h.link]
theorem tx (h : NoticesOnly s t) : t.link.tx = s.link.tx := by rw [h.link]
theorem replyBegun (h : NoticesOnly s t) : t.link.replyBegun = s.link.replyBegun := by rw [h.link]

/-! One more write after what has been shown. -/

theorem setSession (h : NoticesOnly s t) (i : SessionId) (r : Session) : NoticesOnly s (t.setSession i r) :=
  h.trans ⟨rfl, rfl, rfl, rfl⟩
theorem updSession (h : NoticesOnly s t) (i : SessionId) (f : Session → Session) : NoticesOnly s (t.updSession i f) :=
  h.setSession i _
theorem setMeter (h : NoticesOnly s t) (m : LinkMeter) : NoticesOnly s (t.setMeter m) := h.trans ⟨rfl, rfl, rfl, rfl⟩
theorem setArbiter (h : NoticesOnly s t) (a : SlotArbiter) : NoticesOnly s (t.setArbiter a) := h.trans ⟨rfl, rfl, rfl, rfl⟩
theorem setSettings (h : NoticesOnly s t) (c : Settings) : NoticesOnly s (t.setSettings c) := h.trans ⟨rfl, rfl, rfl, rfl⟩
theorem setContention (h : NoticesOnly s t) (c : ContentionInput) : NoticesOnly s (t.setContention c) :=
  h.trans ⟨rfl, rfl, rfl, rfl⟩
theorem updNotices (h : NoticesOnly s t) (i : SessionId) (f : NoticeSet → NoticeSet) : NoticesOnly s (t.updNotices i f) :=
  h.trans ⟨rfl, rfl, rfl, rfl⟩
theorem setLinkNotice (h : NoticesOnly s t) (b : Bool) : NoticesOnly s (t.setLink { t.link with linkNotice := b }) :=
  h.trans ⟨rfl, rfl, rfl, rfl⟩
theorem removeEntry (h : NoticesOnly s t) (i : SessionId) : NoticesOnly s (t.removeEntry i) := h.setArbiter _
theorem grantAll (h : NoticesOnly s t) : NoticesOnly s t.grantAll := h.trans (ofArbiter (State.grantAll_only t))
theorem considerAll (h : NoticesOnly s t) : NoticesOnly s t.considerAll := h.trans (ofArbiter (State.considerAll_only t))
theorem reexamine (h : NoticesOnly s t) (i : SessionId) (wasUrgent freed : Bool) :
    NoticesOnly s (t.reexamine i wasUrgent freed) := h.trans (ofArbiter (State.reexamine_only t i wasUrgent freed))
theorem settle (h : NoticesOnly s t) (i : SessionId) (wasUrgent freed : Bool) : NoticesOnly s (t.settle i wasUrgent freed) :=
  (h.updSession i Session.rearm).reexamine i wasUrgent freed

theorem endRecord (h : NoticesOnly s t) (i : SessionId) (why : Option CancelReason) : NoticesOnly s (t.endRecord i why) := by
  cases hf : (t.session i).fetch with
  | none => rwa [State.endRecord_none _ _ _ hf]
  | some f =>
    rw [State.endRecord_eq _ _ _ _ hf]
    exact h.trans ⟨rfl, rfl, rfl, rfl⟩

theorem runDry (h : NoticesOnly s t) (i : SessionId) : NoticesOnly s (t.runDry i) :=
  ite (h.updSession i _) ((h.updSession i _).updNotices i _)

theorem examinePriming (h : NoticesOnly s t) (i : SessionId) : NoticesOnly s (t.examinePriming i) := by
  unfold State.examinePriming
  dsimp only
  split
  case h_1 | h_2 => exact ite ((h.setSession i _).updNotices i _) h
  all_goals exact h

theorem examineZero (h : NoticesOnly s t) (i : SessionId) : NoticesOnly s (t.examineZero i) := ite (h.runDry i) h

theorem enterFault (h : NoticesOnly s t) (i : SessionId) : NoticesOnly s (t.enterFault i) := by
  unfold State.enterFault
  exact ((h.updSession i _).removeEntry i).updNotices i _

theorem handleFailure (h : NoticesOnly s t) (i : SessionId) (f : FetchRecord) : NoticesOnly s (t.handleFailure i f) :=
  ite (h.setSession i _)
    (ite ((h.setSession i _).updNotices i _) (h.enterFault i))

theorem failFetch (h : NoticesOnly s t) (i : SessionId) (f : FetchRecord) (why : Option CancelReason) :
    NoticesOnly s (t.failFetch i f why) := ((h.endRecord i why).handleFailure i f).reexamine i _ true

theorem abandon (h : NoticesOnly s t) (i : SessionId) (rung : Nat) : NoticesOnly s (t.abandon i rung) :=
  (h.endRecord i _).updSession i _

theorem examineAfterProgress (h : NoticesOnly s t) (i : SessionId) : NoticesOnly s (t.examineAfterProgress i) := by
  unfold State.examineAfterProgress
  split
  · exact h
  · exact (h.abandon i _).reexamine i _ true

theorem examineAll (h : NoticesOnly s t) : NoticesOnly s t.examineAll := by
  unfold State.examineAll
  split
  · exact h
  · next first rest _ =>
    have h1 := h.trans (foldl (fun u (a : SessionId × Nat) => (refl u).abandon a.1 a.2) (first :: rest) t)
    have h2 := h1.trans
      (foldl (fun u (a : SessionId × Nat) => ofArbiter (State.appendIfJoins_only u a.1)) (first :: rest) _)
    exact h2.grantAll.considerAll

theorem shutIfOpen (h : NoticesOnly s t) (i : SessionId) : NoticesOnly s (t.shutIfOpen i) :=
  ite ((((h.endRecord i none).removeEntry i).updNotices i _).updSession i _) h

theorem startPlaying (h : NoticesOnly s t) (i : SessionId) : NoticesOnly s (t.startPlaying i) :=
  ite (((h.updSession i _).runDry i).settle i _ false) ((h.updSession i _).settle i _ false)

theorem stopPlaying (h : NoticesOnly s t) (i : SessionId) : NoticesOnly s (t.stopPlaying i) :=
  (h.updSession i _).settle i _ false

end NoticesOnly

/-! ### The owners' services (R9) -/

theorem State.playOne_noticesOnly {s t : State} {i : SessionId} (h : s.playOne i = some t) : NoticesOnly s t := by
  unfold State.playOne at h
  split at h <;> cases h
  case h_1 => exact (NoticesOnly.refl s).updSession i _
  case h_2 | h_4 => exact (NoticesOnly.refl s).startPlaying i
  case h_3 | h_5 => exact .refl s

theorem State.pauseOne_noticesOnly {s t : State} {i : SessionId} (h : s.pauseOne i = some t) : NoticesOnly s t := by
  unfold State.pauseOne at h
  split at h <;> cases h
  case h_1 => exact (NoticesOnly.refl s).updSession i _
  case h_2 | h_4 => exact .refl s
  case h_3 | h_5 => exact (NoticesOnly.refl s).stopPlaying i

/-- PLAY or PAUSE of one session, taken or refused. -/
theorem answerOne_noticesOnly {s : State} {r : Option State} (h : ∀ t, r = some t → NoticesOnly s t) :
    NoticesOnly s (answerOne s r).1 := by
  cases r with
  | none => exact .refl s
  | some t => exact h t rfl

theorem State.broadcast_noticesOnly (s : State) {one : State → SessionId → Option State}
    (h : ∀ t i u, one t i = some u → NoticesOnly t u) : NoticesOnly s (s.broadcast one).1 := by
  have hturn : ∀ (l : List SessionId) (acc : State × Byte), NoticesOnly acc.1 (l.foldl (broadcastTurn one) acc).1 := by
    intro l
    induction l with
    | nil => exact fun acc => .refl acc.1
    | cons i l ih =>
      intro acc
      refine NoticesOnly.trans ?_ (ih (broadcastTurn one acc i))
      unfold broadcastTurn
      split
      · next t ht => exact h _ _ _ ht
      · exact .refl acc.1
  exact hturn Idx4.all (s, 0#8)

theorem State.ifOpen_noticesOnly {s : State} (i : SessionId) {a : State × Answer} (h : NoticesOnly s a.1) :
    NoticesOnly s (s.ifOpen i a).1 := by
  unfold State.ifOpen
  split
  · exact h
  · exact .refl s

theorem State.serveResetSessions_noticesOnly (s : State) : NoticesOnly s s.serveResetSessions.1 :=
  (NoticesOnly.foldl (fun t i => (NoticesOnly.refl t).shutIfOpen i) _ s).grantAll

theorem State.serveReset_noticesOnly (s : State) (scope : Nat) : NoticesOnly s (s.serveReset scope).1 := by
  unfold State.serveReset
  split
  · exact s.serveResetSessions_noticesOnly
  · split
    · exact (((s.serveResetSessions_noticesOnly.setMeter _).setSettings _).setArbiter _).grantAll.setLinkNotice false
    · exact .refl s

theorem State.serveGrantHold_noticesOnly (s : State) (value : Nat) : NoticesOnly s (s.serveGrantHold value).1 := by
  unfold State.serveGrantHold State.serveHold State.serveRelease
  split
  · exact (NoticesOnly.refl s).setArbiter _
  · split
    · split
      · exact ((NoticesOnly.refl s).setArbiter _).grantAll.considerAll
      · exact .refl s
    · exact .refl s

theorem State.serveConfigure_noticesOnly (s : State) (c : ConfigRequest) : NoticesOnly s (s.serveConfigure c).1 := by
  unfold State.serveConfigure
  split
  · exact .refl s
  · exact (NoticesOnly.refl s).setSettings _

theorem State.serveOpen_noticesOnly (s : State) (i : SessionId) (o : OpenRequest) : NoticesOnly s (s.serveOpen i o).1 := by
  unfold State.serveOpen
  split
  · exact .refl s
  · split
    · exact ((NoticesOnly.refl s).setSession i _).reexamine i false false
    · exact .refl s

theorem State.serveClose_noticesOnly (s : State) (i : SessionId) : NoticesOnly s (s.serveClose i).1 := by
  have h : NoticesOnly s (s.shut i) :=
    ((((NoticesOnly.refl s).endRecord i none).removeEntry i).updNotices i _).updSession i _
  exact .ite h.grantAll h

theorem State.serveLimits_noticesOnly (s : State) (i : SessionId) (cap floor weight : Nat) :
    NoticesOnly s (s.serveLimits i cap floor weight).1 := ⟨rfl, rfl, rfl, rfl⟩

theorem State.serveSeek_noticesOnly (s : State) (i : SessionId) (segment : Nat) :
    NoticesOnly s (s.serveSeek i segment).1 := by
  unfold State.serveSeek
  split
  · exact .refl s
  · exact ((((NoticesOnly.refl s).endRecord i none).removeEntry i).updSession i _).settle i _ _

theorem State.servePlayout_noticesOnly (s : State) (i : SessionId) (level : Nat) :
    NoticesOnly s (s.servePlayout i level).1 := by
  unfold State.servePlayout
  split
  case h_1 | h_2 | h_3 => exact .refl s
  all_goals exact ((((NoticesOnly.refl s).updSession i _).examinePriming i).examineZero i).settle i _ false

theorem State.serveEdge_noticesOnly (s : State) (i : SessionId) (segment : Nat) :
    NoticesOnly s (s.serveEdge i segment).1 := by
  unfold State.serveEdge
  dsimp only
  split
  · split
    · exact ((NoticesOnly.refl s).setSession i _).reexamine i _ false
    · exact .refl s
  · exact .refl s

theorem State.activate_noticesOnly (s : State) (i : SessionId) (f : FetchRecord) : NoticesOnly s (s.activate i f) :=
  ((NoticesOnly.refl s).updSession i _).setMeter _

theorem State.serveStart_noticesOnly (s : State) (i : SessionId) (tag : Byte) (size : Nat) :
    NoticesOnly s (s.serveStart i tag size).1 := by
  unfold State.serveStart
  split
  · exact .refl s
  · split
    · exact s.activate_noticesOnly i _
    · exact .refl s

theorem State.takeProgress_noticesOnly (s : State) (i : SessionId) (f : FetchRecord) (count : Nat) :
    NoticesOnly s (s.takeProgress i f count) := by
  have h : NoticesOnly s (if f.state = .ordered then s.activate i f else s) := .ite (s.activate_noticesOnly i f) (.refl s)
  exact .ite (((h.setMeter _).updSession i _).examineAfterProgress i) h

theorem State.serveProgress_noticesOnly (s : State) (i : SessionId) (tag : Byte) (count : Nat) :
    NoticesOnly s (s.serveProgress i tag count).1 := by
  unfold State.serveProgress
  split
  · exact .refl s
  · exact s.takeProgress_noticesOnly i _ count

theorem State.complete_noticesOnly (s : State) (i : SessionId) (f : FetchRecord) (total : Nat) :
    NoticesOnly s (s.complete i f total) :=
  ((((((NoticesOnly.refl s).setMeter _).endRecord i none).updSession i _).examinePriming i).updSession i _).reexamine i _ true

theorem State.serveDone_noticesOnly (s : State) (i : SessionId) (tag : Byte) (total : Nat) :
    NoticesOnly s (s.serveDone i tag total).1 := by
  unfold State.serveDone
  split
  · exact .refl s
  · next f _ =>
    have h := s.complete_noticesOnly i f (max total f.received)
    exact .ite (h.setArbiter _) h

theorem State.serveFail_noticesOnly (s : State) (i : SessionId) (tag : Byte) (reason : Nat) :
    NoticesOnly s (s.serveFail i tag reason).1 := by
  unfold State.serveFail
  split
  · exact .refl s
  · split
    · exact (NoticesOnly.refl s).failFetch i _ none
    · exact .refl s

theorem State.serveDevice_noticesOnly {s : State} {k : ReqKind} {p : List Byte} {r : State × Answer}
    (h : s.serveDevice k p = some r) : NoticesOnly s r.1 := by
  cases k <;> cases h
  case configure => exact s.serveConfigure_noticesOnly _
  case reset => exact s.serveReset_noticesOnly _
  case grantHold => exact s.serveGrantHold_noticesOnly _
  case hello | queryLink | history => exact .refl s

theorem State.serveSession_noticesOnly {s : State} {k : ReqKind} {i : SessionId} {p : List Byte} {r : State × Answer}
    (h : s.serveSession k i p = some r) : NoticesOnly s r.1 := by
  cases k <;> cases h
  case openSession => exact s.serveOpen_noticesOnly i _
  case querySession => exact .refl s
  all_goals refine State.ifOpen_noticesOnly i ?_
  case closeSession => exact s.serveClose_noticesOnly i
  case play => exact answerOne_noticesOnly fun _ => State.playOne_noticesOnly
  case pause => exact answerOne_noticesOnly fun _ => State.pauseOne_noticesOnly
  case seek => exact s.serveSeek_noticesOnly i _
  case limits => exact s.serveLimits_noticesOnly i _ _ _
  case playout => exact s.servePlayout_noticesOnly i _
  case edge => exact s.serveEdge_noticesOnly i _
  case start => exact s.serveStart_noticesOnly i _ _
  case progress => exact s.serveProgress_noticesOnly i _ _
  case done => exact s.serveDone_noticesOnly i _ _
  case fail => exact s.serveFail_noticesOnly i _ _

theorem State.serveAll_noticesOnly {s : State} {k : ReqKind} {r : State × Answer} (h : s.serveAll k = some r) :
    NoticesOnly s r.1 := by
  cases k <;> cases h
  case play => exact s.broadcast_noticesOnly fun _ _ _ => State.playOne_noticesOnly
  case pause => exact s.broadcast_noticesOnly fun _ _ _ => State.pauseOne_noticesOnly

/-- Serving a request touches of the control link the pending notices alone (R9). -/
theorem State.serve_noticesOnly (s : State) (k : ReqKind) (target : Byte) (p : List Byte) :
    NoticesOnly s (s.serve k target p).1 := by
  have hget : ∀ o : Option (State × Answer), (∀ r, o = some r → NoticesOnly s r.1) →
      NoticesOnly s (o.getD (s, .refuse .badTarget)).1 := by
    rintro (_ | r) h
    · exact .refl s
    · exact h r rfl
  unfold State.serve
  refine hget _ fun r h => ?_
  split at h
  · exact State.serveDevice_noticesOnly h
  · exact State.serveSession_noticesOnly h
  · exact State.serveAll_noticesOnly h
  · cases h

/-! ### The expiries and the contention code -/

theorem State.stallNow_noticesOnly (s : State) (i : SessionId) : NoticesOnly s (s.stallNow i) :=
  (((NoticesOnly.refl s).updSession i _).runDry i).settle i _ false

theorem State.lowNow_noticesOnly (s : State) (i : SessionId) : NoticesOnly s (s.lowNow i) :=
  ((NoticesOnly.refl s).updSession i _).reexamine i false false

theorem State.refillNow_noticesOnly (s : State) (i : SessionId) : NoticesOnly s (s.refillNow i) :=
  ((NoticesOnly.refl s).updSession i _).reexamine i _ false

theorem State.windowNow_noticesOnly (s : State) : NoticesOnly s s.windowNow :=
  .ite ((NoticesOnly.refl s).setMeter _).examineAll ((NoticesOnly.refl s).setMeter _)

theorem State.acceptCode_noticesOnly (s : State) (code : Code) : NoticesOnly s (s.acceptCode code) :=
  have h : NoticesOnly s ((s.setContention { s.contention with accepted := code }).raiseLink) :=
    ((NoticesOnly.refl s).setContention _).setLinkNotice true
  .ite h.grantAll.considerAll h

end Sys2Proof.Machine

/-! SUPPORT. The transmitter's choice (R15, R19, R20): which notice a session sends first, and what a choice may touch. -/

namespace Sys2Proof.Machine

open Sys2Proof

/-! ### The notice a session sends first (R15) -/

/-- A session's turn to send a notice: what is left of its pending set, its skip count afterwards, and the frame's kind and
payload. -/
structure NoticeTurn where
  left : NoticeSet
  skipCount : Nat
  kind : Byte
  payload : List Byte

/-- The first pending kind of a session in the order CANCEL, ORDER, SKIP, STALL, READY, FAULT, as a turn (R15). -/
def State.firstNotice (s : State) (i : SessionId) : Option NoticeTurn :=
  let r := s.session i
  let n := s.notices i
  match n.cancel with
  | some c => some ⟨{ n with cancel := none }, r.skipCount, 0x41#8, c.payload⟩
  | none =>
    if n.order then some ⟨{ n with order := false }, r.skipCount, 0x40#8, orderPayload r.fetch⟩
    else if n.skip then some ⟨{ n with skip := false }, 0, 0x42#8, put32 r.skipFirst ++ put8 r.skipCount⟩
    else match n.stall with
      | some t => some ⟨{ n with stall := none }, r.skipCount, 0x43#8, put8 r.stallCount ++ putTime t⟩
      | none =>
        if n.ready then some ⟨{ n with ready := false }, r.skipCount, 0x44#8, put32 (s.level i)⟩
        else if n.fault then some ⟨{ n with fault := false }, r.skipCount, 0x45#8, [1#8]⟩
        else none

/-- The state in which a session's turn has begun transmission. -/
def State.takeTurn (s : State) (i : SessionId) (turn : NoticeTurn) : State :=
  { s with
    sessions := s.sessions.set i { s.session i with skipCount := turn.skipCount }
    link := { s.link with
      notices := s.link.notices.set i turn.left
      rotation := .session i
      tx := .notice (frameBytes turn.kind (sessionByte i) turn.payload 0#8) } }

theorem State.sendSessionNotice_eq (s : State) (i : SessionId) :
    s.sendSessionNotice i = (s.firstNotice i).elim s (s.takeTurn i) := by
  have hkeep : s.sessions.set i (s.session i) = s.sessions := Four.set_get _ _
  simp only [State.sendSessionNotice, State.firstNotice, State.sendNotice, State.updNotices, State.setLink]
  generalize s.notices i = n
  obtain ⟨cancel, order, skip, stall, ready, fault⟩ := n
  cases cancel with
  | some c => simp [State.takeTurn, hkeep]
  | none =>
    cases order with
    | true => simp [State.takeTurn, hkeep]
    | false =>
      cases skip with
      | true => rfl
      | false =>
        cases stall with
        | some t => simp [State.takeTurn, hkeep]
        | none => cases ready <;> cases fault <;> simp [State.takeTurn, hkeep]

/-- A session has no turn exactly when nothing is pending for it (R14). -/
theorem State.firstNotice_eq_none (s : State) (i : SessionId) : s.firstNotice i = none ↔ s.notices i = NoticeSet.empty := by
  unfold State.firstNotice NoticeSet.empty
  obtain ⟨cancel, order, skip, stall, ready, fault⟩ := s.notices i
  cases cancel <;> cases order <;> cases skip <;> cases stall <;> cases ready <;> cases fault <;> simp

theorem State.hasNotice_session (s : State) (i : SessionId) : s.hasNotice (.session i) = (s.firstNotice i).isSome := by
  rw [Bool.eq_iff_iff, Option.isSome_iff_ne_none, Ne, s.firstNotice_eq_none]
  exact decide_eq_true_iff

/-! ### What a choice may touch -/

/-- All that the transmitter's choice may write: of the control link what it has in transmission, the pending notices, the
rotation pointer and OVERRUN_SEEN, and of a session the skip count (R10, R15, R20). -/
structure ChoiceOnly (s t : State) : Prop where
  nrstHigh : t.nrstHigh = s.nrstHigh
  partTime : t.partTime = s.partTime
  contention : t.contention = s.contention
  meter : t.meter = s.meter
  arbiter : t.arbiter = s.arbiter
  settings : t.settings = s.settings
  pending : t.pending = s.pending
  session : ∀ i, t.session i = { s.session i with skipCount := (t.session i).skipCount }
  link : t.link = { s.link with
    overrunSeen := t.link.overrunSeen, linkNotice := t.link.linkNotice, notices := t.link.notices,
    rotation := t.link.rotation, tx := t.link.tx, replyBegun := t.link.replyBegun }

theorem ChoiceOnly.refl (s : State) : ChoiceOnly s s := ⟨rfl, rfl, rfl, rfl, rfl, rfl, rfl, fun _ => rfl, rfl⟩

theorem ChoiceOnly.framer {s t : State} (h : ChoiceOnly s t) : t.link.framer = s.link.framer := by rw [h.link]
theorem ChoiceOnly.gap {s t : State} (h : ChoiceOnly s t) : t.link.gap = s.link.gap := by rw [h.link]
theorem ChoiceOnly.rdyRisen {s t : State} (h : ChoiceOnly s t) : t.link.rdyRisen = s.link.rdyRisen := by rw [h.link]
theorem ChoiceOnly.rdyExpiry {s t : State} (h : ChoiceOnly s t) : t.link.rdyExpiry = s.link.rdyExpiry := by rw [h.link]
theorem ChoiceOnly.replies {s t : State} (h : ChoiceOnly s t) : t.link.replies = s.link.replies := by rw [h.link]
theorem ChoiceOnly.fetch {s t : State} (h : ChoiceOnly s t) (i : SessionId) : (t.session i).fetch = (s.session i).fetch := by
  rw [h.session i]
theorem ChoiceOnly.stallExpiry {s t : State} (h : ChoiceOnly s t) (i : SessionId) :
    (t.session i).stallExpiry = (s.session i).stallExpiry := by rw [h.session i]
theorem ChoiceOnly.lowExpiry {s t : State} (h : ChoiceOnly s t) (i : SessionId) :
    (t.session i).lowExpiry = (s.session i).lowExpiry := by rw [h.session i]
theorem ChoiceOnly.refillExpiry {s t : State} (h : ChoiceOnly s t) (i : SessionId) :
    (t.session i).refillExpiry = (s.session i).refillExpiry := by rw [h.session i]

theorem State.sendReply_only (s : State) (r : Reply) : ChoiceOnly s (s.sendReply r) :=
  ⟨rfl, rfl, rfl, rfl, rfl, rfl, rfl, fun _ => rfl, rfl⟩

theorem State.takeTurn_only (s : State) (i : SessionId) (turn : NoticeTurn) : ChoiceOnly s (s.takeTurn i turn) :=
  ⟨rfl, rfl, rfl, rfl, rfl, rfl, rfl, fun j => by
    rw [show (s.takeTurn i turn).session j = _ from Four.get_set _ _ _ _]
    split
    · next hj => subst hj; rfl
    · rfl, rfl⟩

/-- What the choice of a notice can be: nothing is pending and nothing happens, or LINK begins, or a session's turn
(R15, R20). -/
theorem State.chooseNotice_cases (s : State) :
    (s.nextSource = none ∧ s.chooseNotice = s) ∨ (s.nextSource = some .device ∧ s.chooseNotice = s.sendLinkNotice) ∨
      ∃ i turn, s.nextSource = some (.session i) ∧ s.firstNotice i = some turn ∧ s.chooseNotice = s.takeTurn i turn := by
  cases hn : s.nextSource with
  | none => exact .inl ⟨rfl, by rw [State.chooseNotice, hn]⟩
  | some src =>
    cases src with
    | device => exact .inr (.inl ⟨rfl, by rw [State.chooseNotice, hn]⟩)
    | session i =>
      have hp : s.hasNotice (.session i) = true := List.find?_some hn
      rw [s.hasNotice_session, Option.isSome_iff_exists] at hp
      obtain ⟨turn, ht⟩ := hp
      refine .inr (.inr ⟨i, turn, rfl, ht, ?_⟩)
      rw [State.chooseNotice, hn]
      show s.sendSessionNotice i = _
      rw [s.sendSessionNotice_eq, ht]
      rfl

theorem State.chooseNotice_only (s : State) : ChoiceOnly s s.chooseNotice := by
  obtain ⟨_, h⟩ | ⟨_, h⟩ | ⟨i, turn, _, _, h⟩ := s.chooseNotice_cases <;> rw [h]
  · exact .refl s
  · exact ⟨rfl, rfl, rfl, rfl, rfl, rfl, rfl, fun _ => rfl, rfl⟩
  · exact s.takeTurn_only i turn

theorem State.chooseNotice_replyBegun (s : State) : s.chooseNotice.link.replyBegun = s.link.replyBegun := by
  obtain ⟨_, h⟩ | ⟨_, h⟩ | ⟨i, turn, _, _, h⟩ := s.chooseNotice_cases <;> rw [h] <;> rfl

/-- A notice begins transmission, or nothing is pending and nothing happens. -/
theorem State.chooseNotice_tx (s : State) :
    (s.nextSource = none ∧ s.chooseNotice = s) ∨ ∃ f, s.chooseNotice.link.tx = .notice f := by
  obtain h | ⟨_, h⟩ | ⟨i, turn, _, _, h⟩ := s.chooseNotice_cases
  · exact .inl h
  all_goals exact .inr ⟨_, by rw [h]; rfl⟩

/-- What the transmitter's choice can be: the oldest reply; nothing before a first reply; or the choice of a notice
(R19, R180). -/
theorem State.chooseFrame_cases (s : State) :
    (∃ r rest, s.link.replies = r :: rest ∧ s.chooseFrame = s.sendReply r) ∨
      (s.link.replies = [] ∧ s.link.replyBegun = false ∧ s.chooseFrame = s) ∨
      (s.link.replies = [] ∧ s.link.replyBegun = true ∧ s.chooseFrame = s.chooseNotice) := by
  cases hr : s.link.replies with
  | cons r rest => exact .inl ⟨r, rest, rfl, s.chooseFrame_reply r rest hr⟩
  | nil =>
    cases hb : s.link.replyBegun with
    | false => exact .inr (.inl ⟨rfl, rfl, s.chooseFrame_before_reply hr hb⟩)
    | true => exact .inr (.inr ⟨rfl, rfl, s.chooseFrame_notice hr hb⟩)

theorem State.chooseFrame_only (s : State) : ChoiceOnly s s.chooseFrame := by
  obtain ⟨r, _, _, h⟩ | ⟨_, _, h⟩ | ⟨_, _, h⟩ := s.chooseFrame_cases <;> rw [h]
  · exact s.sendReply_only r
  · exact .refl s
  · exact s.chooseNotice_only

theorem State.leaveIdle_idle (s : State) (h : s.link.tx = .idle) : s.leaveIdle = s.chooseFrame := by
  simp only [State.leaveIdle, h]

theorem State.leaveIdle_sending (s : State) (h : s.link.tx ≠ .idle) : s.leaveIdle = s := by
  cases ht : s.link.tx with
  | idle => exact absurd ht h
  | reply f => simp only [State.leaveIdle, ht]
  | notice f => simp only [State.leaveIdle, ht]

theorem State.leaveIdle_only (s : State) : ChoiceOnly s s.leaveIdle := by
  by_cases h : s.link.tx = .idle
  · rw [s.leaveIdle_idle h]; exact s.chooseFrame_only
  · rw [s.leaveIdle_sending h]; exact .refl s

end Sys2Proof.Machine

/-! SUPPORT and O53. The link's invariant: reply queue, transmitter and receiver stay consistent over every step
(R4, R5, R10, R12, R19, R180). -/

namespace Sys2Proof.Machine

open Sys2Proof

/-! ### Commands as events -/

/-- A request command is the arrival of its frame (log 3). -/
theorem exec_request {cmd : Instr} {k : ReqKind} {w : Wire} {p : List Byte} (h : requestOf cmd = some (k, w, p)) (s : State) :
    exec cmd s = .next (s.receiveRequest k w p) := by
  cases cmd <;> cases h <;> rfl

/-! ### The invariant and the state before the transmitter's choice -/

/-- Reply queue, transmitter and receiver are consistent: the invariant of O53. -/
def LinkServes (s : State) : Prop := RepliesFit s ∧ TransmitterServes s ∧ GapMatchesFramer s

/-- The link between an event's effect and the choice it occasions: `LinkServes`, but a reply may wait for an idle
transmitter (R19). -/
structure AwaitsChoice (s : State) : Prop where
  fits : RepliesFit s
  matchesGap : GapMatchesFramer s
  begun : s.link.replyBegun = false → s.link.tx = .idle
  head : ∀ f, s.link.tx = .reply f → ∃ (r : Reply) (rest : List Reply) (overrun : Bool),
    s.link.replies = r :: rest ∧ f = r.frame overrun

theorem LinkServes.awaits {s : State} (h : LinkServes s) : AwaitsChoice s :=
  let ⟨hfit, ⟨_, hbegun, hhead⟩, hgap⟩ := h
  ⟨hfit, hgap, hbegun, hhead⟩

theorem AwaitsChoice.serves {s : State} (h : AwaitsChoice s) (hidle : s.link.tx = .idle → s.link.replies = []) :
    LinkServes s := ⟨h.fits, ⟨hidle, h.begun, h.head⟩, h.matchesGap⟩

/-- The invariant reads the framer, the gap expiry, the replies, the transmitter and `replyBegun` alone. -/
theorem LinkServes.congr {s t : State} (h : LinkServes s) (hf : t.link.framer = s.link.framer) (hg : t.link.gap = s.link.gap)
    (hr : t.link.replies = s.link.replies) (ht : t.link.tx = s.link.tx) (hb : t.link.replyBegun = s.link.replyBegun) :
    LinkServes t := by
  simpa only [LinkServes, RepliesFit, TransmitterServes, GapMatchesFramer, hf, hg, hr, ht, hb] using h

theorem AwaitsChoice.congr {s t : State} (h : AwaitsChoice s) (hf : t.link.framer = s.link.framer) (hg : t.link.gap = s.link.gap)
    (hr : t.link.replies = s.link.replies) (ht : t.link.tx = s.link.tx) (hb : t.link.replyBegun = s.link.replyBegun) :
    AwaitsChoice t where
  fits := by simpa only [RepliesFit, hr] using h.fits
  matchesGap := by simpa only [GapMatchesFramer, hf, hg] using h.matchesGap
  begun := by simpa only [ht, hb] using h.begun
  head := by simpa only [ht, hr] using h.head

/-- What an owner does keeps the invariant. -/
theorem NoticesOnly.linkServes {s t : State} (h : NoticesOnly s t) (hs : LinkServes s) : LinkServes t :=
  hs.congr h.framer h.gap h.replies h.tx h.replyBegun

theorem LinkServes.ite {c : Prop} [Decidable c] {s t : State} (h : LinkServes s) (k : LinkServes t) :
    LinkServes (if c then s else t) := by split <;> assumption

/-! ### The transmitter (R10, R19, R180) -/

/-- The oldest reply begun: it stays the queue's head (R10, R12). -/
theorem AwaitsChoice.sendReply {s : State} (h : AwaitsChoice s) {r : Reply} {rest : List Reply}
    (hr : s.link.replies = r :: rest) : LinkServes (s.sendReply r) :=
  ⟨h.fits, ⟨(nomatch ·), (nomatch ·), fun _ hf => ⟨r, rest, s.link.overrunSeen, hr, (Transmitter.reply.inj hf).symm⟩⟩,
    h.matchesGap⟩

/-- The transmitter's choice leaves no reply waiting (R19). -/
theorem AwaitsChoice.chooseFrame {s : State} (h : AwaitsChoice s) : LinkServes s.chooseFrame := by
  obtain ⟨r, rest, hr, e⟩ | ⟨hr, _, e⟩ | ⟨hr, hb, e⟩ := s.chooseFrame_cases <;> rw [e]
  · exact h.sendReply hr
  · exact h.serves fun _ => hr
  · have hs : LinkServes s := h.serves fun _ => hr
    obtain ⟨_, e⟩ | ⟨f, htx⟩ := s.chooseNotice_tx
    · rwa [e]
    · have ho := s.chooseNotice_only
      refine ⟨?_, ⟨fun ht => ?_, fun hb' => ?_, fun g hg => ?_⟩, ?_⟩
      · simpa only [RepliesFit, ho.replies] using h.fits
      · rw [htx] at ht; cases ht
      · rw [s.chooseNotice_replyBegun, hb] at hb'; cases hb'
      · rw [htx] at hg; cases hg
      · simpa only [GapMatchesFramer, ho.framer, ho.gap] using h.matchesGap

theorem LinkServes.leaveIdle {s : State} (h : LinkServes s) : LinkServes s.leaveIdle := by
  by_cases hidle : s.link.tx = .idle
  · rw [s.leaveIdle_idle hidle]; exact h.awaits.chooseFrame
  · rwa [s.leaveIdle_sending hidle]

theorem AwaitsChoice.transmitReply {s : State} (h : AwaitsChoice s) : LinkServes s.transmitReply := by
  unfold State.transmitReply
  split
  · next hr => exact h.sendReply hr
  · next hr => exact h.serves fun _ => hr
  · next ht => exact h.serves fun hidle => nomatch ht.symm.trans hidle
  · next ht => exact h.serves fun hidle => nomatch ht.symm.trans hidle

/-- At the end of a frame the transmitter is idle, with the choice to make (R19). -/
theorem LinkServes.endFrame {s : State} (h : LinkServes s) : AwaitsChoice s.endFrame := by
  have ha := h.awaits
  unfold State.endFrame
  split
  · exact ha
  · refine ⟨?_, ha.matchesGap, fun _ => rfl, fun f hf => nomatch hf⟩
    have hfit : s.link.replies.length ≤ 4 := ha.fits
    show s.link.replies.tail.length ≤ 4
    rw [List.length_tail]
    omega
  · exact ⟨ha.fits, ha.matchesGap, fun _ => rfl, fun f hf => nomatch hf⟩

/-! ### A complete frame and the receiver (R3 to R7) -/

/-- A reply placed where there is room waits behind the one in transmission (R12). -/
theorem AwaitsChoice.queueReply {s : State} (h : AwaitsChoice s) (hroom : s.link.replies.length < 4) (r : Reply) :
    AwaitsChoice (s.queueReply r) where
  fits := by
    show (s.link.replies ++ [r]).length ≤ 4
    rw [List.length_append]
    exact hroom
  matchesGap := h.matchesGap
  begun := h.begun
  head := fun f hf => by
    obtain ⟨r', rest, overrun, hr, e⟩ := h.head f hf
    exact ⟨r', rest ++ [r], overrun, by show s.link.replies ++ [r] = _; rw [hr]; rfl, e⟩

/-- A frame checked where there is room leaves one more reply (R7, R9). -/
theorem AwaitsChoice.checkFrame {s : State} (h : AwaitsChoice s) (hroom : s.link.replies.length < 4) (kind target len : Byte)
    (p : List Byte) (sum : Byte) : AwaitsChoice (s.checkFrame kind target len p sum) := by
  unfold State.checkFrame
  split
  · exact h.queueReply hroom _
  · split
    · exact h.queueReply hroom _
    · next k _ =>
      split
      · exact h.queueReply hroom _
      · have hn := s.serve_noticesOnly k target p
        exact (h.congr hn.framer hn.gap hn.replies hn.tx hn.replyBegun).queueReply (by rw [hn.replies]; exact hroom) _

theorem LinkServes.completeFrame {s : State} (h : LinkServes s) (kind target len : Byte) (p : List Byte) (sum : Byte) :
    LinkServes (s.completeFrame kind target len p sum).transmitReply := by
  have ht : LinkServes (if s.clearsNext kind target len p sum then s else s.leaveIdle) := h.ite h.leaveIdle
  unfold State.completeFrame
  generalize (if s.clearsNext kind target len p sum then s else s.leaveIdle) = t at ht
  dsimp only
  split
  · exact (ht.awaits.congr (t := t.setLink { t.link with overrunSeen := true }) rfl rfl rfl rfl rfl).transmitReply
  · next hroom => exact (ht.awaits.checkFrame (Nat.lt_of_not_le hroom) kind target len p sum).transmitReply

theorem LinkServes.resetFramer {s : State} (h : LinkServes s) : LinkServes s.resetFramer :=
  let ⟨hfit, hserve, _⟩ := h
  ⟨hfit, hserve, fun _ => rfl, fun _ => rfl⟩

theorem LinkServes.moveFramer {s : State} (h : LinkServes s) {f : Framer} (hf : f ≠ .hunt) : LinkServes (s.moveFramer f) :=
  let ⟨hfit, hserve, _⟩ := h
  ⟨hfit, hserve, iff_of_false (Option.some_ne_none _) hf⟩

theorem LinkServes.takeByte {s : State} (h : LinkServes s) (b : Byte) : LinkServes (s.takeByte b) := by
  unfold State.takeByte
  split
  · exact (h.moveFramer Framer.noConfusion).ite h
  · exact h.moveFramer Framer.noConfusion
  · exact h.moveFramer Framer.noConfusion
  · split <;> exact h.moveFramer Framer.noConfusion
  · split <;> exact h.moveFramer Framer.noConfusion
  · exact h.resetFramer.completeFrame _ _ _ _ _

theorem LinkServes.receive {s : State} (h : LinkServes s) (b : Byte) : LinkServes (s.receive b) := (h.takeByte b).ite h

theorem LinkServes.receiveAll {s : State} (h : LinkServes s) (bs : List Byte) : LinkServes (s.receiveAll bs) := by
  induction bs generalizing s with
  | nil => exact h
  | cons b bs ih => exact ih (h.receive b)

/-! ### The expiries and the advance (R25 to R29, R66 to R68, R88, R156) -/

theorem LinkServes.fallGap {s : State} (h : LinkServes s) : LinkServes s.fallGap := h.resetFramer.ite h

theorem LinkServes.fallRdy {s : State} (h : LinkServes s) : LinkServes s.fallRdy :=
  (h.congr (t := s.setLink { s.link with rdyExpiry := none, rdyRisen := true }) rfl rfl rfl rfl rfl).ite h

theorem LinkServes.fallActivity {s : State} (h : LinkServes s) (i : SessionId) : LinkServes (s.fallActivity i) := by
  unfold State.fallActivity
  split
  · exact h
  · exact (((NoticesOnly.refl _).failFetch i _ _).linkServes h.leaveIdle).ite h

theorem LinkServes.fallStall {s : State} (h : LinkServes s) (i : SessionId) : LinkServes (s.fallStall i) :=
  ((s.leaveIdle.stallNow_noticesOnly i).linkServes h.leaveIdle).ite h

theorem LinkServes.fallLow {s : State} (h : LinkServes s) (i : SessionId) : LinkServes (s.fallLow i) :=
  ((s.leaveIdle.lowNow_noticesOnly i).linkServes h.leaveIdle).ite h

theorem LinkServes.fallRefill {s : State} (h : LinkServes s) (i : SessionId) : LinkServes (s.fallRefill i) :=
  ((s.leaveIdle.refillNow_noticesOnly i).linkServes h.leaveIdle).ite h

theorem LinkServes.fallWindow {s : State} (h : LinkServes s) : LinkServes s.fallWindow :=
  (s.leaveIdle.windowNow_noticesOnly.linkServes h.leaveIdle).ite h

theorem LinkServes.dealWithSample {s : State} (h : LinkServes s) (code : Code) : LinkServes (s.dealWithSample code) := by
  have h1 : LinkServes (s.leaveIdle.setContention { s.contention with lastSample := some code }) := h.leaveIdle
  exact ((State.acceptCode_noticesOnly _ code).linkServes h1).ite h1

theorem LinkServes.settleSample {s : State} (h : LinkServes s) : LinkServes s.settleSample := by
  unfold State.settleSample
  split
  · exact h
  · exact LinkServes.dealWithSample (s := s.setContention { s.contention with held := none }) h _

theorem LinkServes.takeAllDue {s : State} (h : LinkServes s) : LinkServes s.takeAllDue := by
  have hfold : ∀ (l : List SessionId) (t : State), LinkServes t →
      LinkServes (l.foldl (fun t i => (((t.fallActivity i).fallStall i).fallRefill i).fallLow i) t) := by
    intro l
    induction l with
    | nil => exact fun t ht => ht
    | cons i l ih => exact fun t ht => ih _ ((((ht.fallActivity i).fallStall i).fallRefill i).fallLow i)
  exact (hfold Idx4.all _ h.fallGap.fallRdy.settleSample.fallWindow).leaveIdle

theorem LinkServes.advance {s : State} (h : LinkServes s) : LinkServes s.advance := h.takeAllDue

theorem LinkServes.advanceAs {s : State} (h : LinkServes s) (how : Advance) : LinkServes (s.advanceAs how) := by
  cases how with
  | atOnce cc => exact h.advance.dealWithSample _
  | hold cc => exact h.advance
  | settle => exact h.settleSample

/-! ### Every command (R180 for the pins) -/

/-- A link with nothing queued, nothing in transmission and the receiver in HUNT. -/
theorem LinkServes.ofQuiet {s : State} (hr : s.link.replies = []) (ht : s.link.tx = .idle) (hf : s.link.framer = .hunt)
    (hg : s.link.gap = none) : LinkServes s := by
  refine ⟨?_, ⟨fun _ => hr, fun _ => ht, fun f hf => ?_⟩, iff_of_true hg hf⟩
  · simp [RepliesFit, hr]
  · rw [ht] at hf; cases hf

/-- Every event that is no request keeps the invariant. -/
theorem LinkServes.execEvent {s t : State} {cmd : Instr} (h : LinkServes s) (hreq : requestOf cmd = none)
    (he : exec cmd s = .next t) : LinkServes t := by
  cases cmd <;> cases hreq <;> cases he
  case pinReset => exact .ofQuiet rfl rfl rfl rfl
  case nrstRelease baudHigh => exact h.ite (.ofQuiet rfl rfl rfl rfl)
  case rdyFirstRise => exact h.fallRdy.ite h
  case partTimeAdvance how => exact (h.advanceAs how).ite h
  case interByteGapExpiry => exact h.fallGap.ite h
  case activityExpiry i => exact (h.fallActivity i).ite h
  case stallExpiry i => exact (h.fallStall i).ite h
  case lowExpiry i => exact (h.fallLow i).ite h
  case refillExpiry i => exact (h.fallRefill i).ite h
  case windowExpiry => exact h.fallWindow.ite h
  case frameSent => exact h.endFrame.chooseFrame.ite h
  case characterReceived stopHigh b => exact (h.receive b).ite h

/-- Every command keeps the invariant: a request by its frame's arrival, any other by its own event. -/
theorem LinkServes.exec {s t : State} {cmd : Instr} (h : LinkServes s) (he : exec cmd s = .next t) : LinkServes t := by
  cases hreq : requestOf cmd with
  | none => exact h.execEvent hreq he
  | some request =>
    rw [exec_request hreq] at he
    cases he
    exact h.receiveAll _

/-- Settles O53, by the invariant `LinkServes` over every command. -/
theorem linkInvariantKept : Obligations.LinkInvariantKept := by
  intro s t h hstep
  unfold step at hstep
  split at hstep
  · cases hstep; exact h
  · next rest _ => exact LinkServes.exec (s := { s with pending := rest }) h hstep

end Sys2Proof.Machine

/-! The receiver and complete frames (O6, O9, O10, O11), the end of a frame (O12), the frame layout (O14), HELLO (O15) and the
expiries that do not fall (O46). -/

namespace Sys2Proof.Machine

open Sys2Proof

/-! ### Characters and commands at the receiver (R1, R3, R5) -/

theorem State.receive_ignored (s : State) (b : Byte) (h : s.receives = false) : s.receive b = s := by
  simp [State.receive, h]

/-- While the receiver takes no bytes, a run of them changes nothing (R5). -/
theorem State.receiveAll_ignored (s : State) (bs : List Byte) (h : s.receives = false) : s.receiveAll bs = s := by
  induction bs with
  | nil => rfl
  | cons b bs ih =>
    rw [State.receiveAll, List.foldl_cons, s.receive_ignored b h]
    exact ih

/-- A character with a high stop bit, at a part that receives, is a byte taken (R1, R3). -/
theorem exec_character {s : State} (hn : s.nrstHigh = true) (hr : s.link.rdyRisen = true) (b : Byte) :
    exec (.characterReceived true b) s = .next (s.takeByte b) :=
  congrArg Host.Outcome.next (s.receive_of_receives b (by simp [State.receives, hn, hr]))

/-- Settles O6: before RDY has risen the receiver takes no byte, and a request is its bytes. -/
theorem bytesIgnoredBeforeRdy : Obligations.BytesIgnoredBeforeRdy := by
  intro s hrdy
  have hr : s.receives = false := by simp [State.receives, hrdy]
  refine ⟨fun stop b => ?_, fun cmd k w p hreq => ?_⟩
  · cases stop with
    | false => rfl
    | true => exact congrArg Host.Outcome.next (s.receive_ignored b hr)
  · rw [exec_request hreq, State.receiveRequest, s.receiveAll_ignored _ hr]

/-- Settles O9, by the receiver's states. -/
theorem receiverTakesByte : Obligations.ReceiverTakesByte := by
  intro b s hn hr moved
  have hmoved : ∀ f, moved f = .next (s.moveFramer f) := fun _ => rfl
  refine ⟨rfl, fun hf hb => ?_, fun hf hb => ?_, fun hf => ?_, fun k hf => ?_, fun k t hf => ?_, fun k t l p hf => ?_⟩ <;>
    rw [exec_character hn hr, State.takeByte, hf]
  · rw [if_neg (show ¬ b = Config.sync from hb)]
  · rw [if_pos (show b = Config.sync from hb), hmoved]
  · rw [hmoved]
  · rw [hmoved]
  · rw [hmoved, apply_ite s.moveFramer]
  · rw [hmoved, apply_ite s.moveFramer, List.length_append, List.length_singleton]

/-! ### A complete frame (R6, R7) -/

theorem ReqKind.ofCode_eq_none {b : Byte} (h : ∀ q : ReqKind, q.code ≠ b) : ReqKind.ofCode b = none :=
  List.find?_eq_none.mpr fun q _ => by simpa using h q

theorem State.checkFrame_sumBad (s : State) {kind target len sum : Byte} {p : List Byte}
    (h : sum ≠ frameSum kind target len p) :
    s.checkFrame kind target len p sum = s.queueReply (faultReply kind target sumBadBit) := if_pos h

theorem State.checkFrame_kindUnknown (s : State) {kind : Byte} (target len : Byte) (p : List Byte)
    (h : ∀ q : ReqKind, q.code ≠ kind) :
    s.checkFrame kind target len p (frameSum kind target len p) = s.queueReply (faultReply kind target kindUnknownBit) := by
  simp [State.checkFrame, ReqKind.ofCode_eq_none h]

theorem State.checkFrame_lenBad (s : State) (k : ReqKind) (target : Byte) {len : Byte} {p : List Byte}
    (h : k.requiredLength p ≠ some len.toNat) :
    s.checkFrame k.code target len p (frameSum k.code target len p) = s.queueReply (faultReply k.code target lenBadBit) := by
  simp [State.checkFrame, h]

theorem State.checkFrame_answered (s : State) (k : ReqKind) (target : Byte) {len : Byte} {p : List Byte}
    (h : k.requiredLength p = some len.toNat) :
    s.checkFrame k.code target len p (frameSum k.code target len p) = s.answerRequest k target p := by
  simp [State.checkFrame, h]

/-- The SUM byte's character completes the frame (R3). -/
theorem exec_character_sum {s : State} (hn : s.nrstHigh = true) (hr : s.link.rdyRisen = true) {k t l : Byte} {p : List Byte}
    (hf : s.link.framer = .sum k t l p) (b : Byte) :
    exec (.characterReceived true b) s = .next (s.resetFramer.completeFrame k t l p b).transmitReply := by
  rw [exec_character hn hr, State.takeByte, hf]

/-- A frame whose check queues the reply `r` and does nothing else leaves `afterReply` (R6, R7, R19). -/
theorem State.completeFrame_queued {s : State} (hs : s.transmitterServed) (hroom : s.link.replies.length < 4)
    {k t l b : Byte} {p : List Byte} {r : Reply} (h : s.resetFramer.checkFrame k t l p b = s.resetFramer.queueReply r) :
    (s.resetFramer.completeFrame k t l p b).transmitReply = afterReply s r := by
  have hroom' : ¬ Config.replyRoom ≤ s.resetFramer.link.replies.length := Nat.not_le_of_lt hroom
  rw [State.completeFrame_served s.resetFramer hs, if_neg hroom', h, State.transmitReply_queueReply _ _ rfl rfl]
  rfl

/-- With four replies queued and a frame in transmission, a complete frame is discarded whole (R6). -/
theorem State.completeFrame_full {s : State} (htx : s.link.tx ≠ .idle) (hfull : 4 ≤ s.link.replies.length) (k t l b : Byte)
    (p : List Byte) : (s.completeFrame k t l p b).transmitReply = s.setLink { s.link with overrunSeen := true } := by
  rw [State.completeFrame_served s (fun hidle => absurd hidle htx), if_pos (show Config.replyRoom ≤ _ from hfull),
    State.transmitReply]
  split
  · next hidle _ => exact absurd hidle htx
  · next hidle _ => exact absurd hidle htx
  · rfl
  · rfl

/-- RESET with a scope other than 1 and 2 is refused (R178). -/
theorem State.serve_reset_badScope (s : State) {x : Byte} (h1 : x ≠ 1#8) (h2 : x ≠ 2#8) :
    s.serve .reset Config.deviceTarget [x] = (s, .refuse .badField) := by
  have n1 : ¬ byteAt [x] 0 = 1 := fun e => h1 (BitVec.eq_of_toNat_eq e)
  have n2 : ¬ byteAt [x] 0 = 2 := fun e => h2 (BitVec.eq_of_toNat_eq e)
  show s.serveReset (byteAt [x] 0) = _
  rw [State.serveReset, if_neg n1, if_neg n2]

/-- GRANT_HOLD with a value other than 0 and 1 is refused (R136). -/
theorem State.serve_grantHold_badValue (s : State) {x : Byte} (h0 : x ≠ 0#8) (h1 : x ≠ 1#8) :
    s.serve .grantHold Config.deviceTarget [x] = (s, .refuse .badField) := by
  have n0 : ¬ byteAt [x] 0 = 0 := fun e => h0 (BitVec.eq_of_toNat_eq e)
  have n1 : ¬ byteAt [x] 0 = 1 := fun e => h1 (BitVec.eq_of_toNat_eq e)
  show s.serveGrantHold (byteAt [x] 0) = _
  rw [State.serveGrantHold, if_neg n1, if_neg n0]

/-- A request that its owner refuses and that changes nothing queues its reply alone (R9). -/
theorem State.answerRequest_refused (s : State) {k : ReqKind} {target : Byte} {p : List Byte} {c : Status1}
    (h : s.serve k target p = (s, .refuse c)) : s.answerRequest k target p = s.queueReply (replyTo k target c []) := by
  rw [State.answerRequest, h]; rfl

/-- Settles O10, clause by clause in the order of the checks. -/
theorem completeFrameChecks : Obligations.CompleteFrameChecks := by
  intro b k t l p s hn hr hf sum refused
  have hsum : sum = frameSum k t l p := rfl
  rw [exec_character_sum hn hr hf]
  refine ⟨fun hfull htx => ?_, fun hs hroom hb => ?_, fun hs hroom hb hk => ?_, fun q hs hroom hb hk hlen => ?_,
    fun cmd q w hreq hk ht hlen hb => ?_, fun x hs hroom hb ht hl hp => ⟨fun hk h1 h2 => ?_, fun hk h0 h1 => ?_⟩⟩
  · rw [State.completeFrame_full (s := s.resetFramer) htx hfull]; rfl
  · exact congrArg Host.Outcome.next (State.completeFrame_queued hs hroom (State.checkFrame_sumBad _ hb))
  · rw [hb, hsum]
    exact congrArg Host.Outcome.next (State.completeFrame_queued hs hroom (State.checkFrame_kindUnknown _ _ _ _ hk))
  · subst hk
    rw [hb, hsum]
    exact congrArg Host.Outcome.next (State.completeFrame_queued hs hroom (State.checkFrame_lenBad _ _ _ hlen))
  · have hl : l = BitVec.ofNat 8 p.length := by rw [← hlen, BitVec.ofNat_toNat, BitVec.setWidth_eq]
    have hp : p.length ≤ 255 := by have := l.isLt; omega
    rw [exec_request hreq]
    show _ = Host.Outcome.next (s.resetFramer.receiveRequest q w p)
    rw [State.receiveRequest, State.receiveAll_frame s.resetFramer _ _ _ _ (by simp [State.receives, State.resetFramer, hn, hr])
      rfl rfl hp, hk, ht, ← hl, hb, hsum]
  · subst hk ht hl hp
    rw [hb, hsum]
    refine congrArg Host.Outcome.next (State.completeFrame_queued hs hroom ?_)
    rw [State.checkFrame_answered _ .reset _ rfl]
    exact State.answerRequest_refused _ (State.serve_reset_badScope _ h1 h2)
  · subst hk ht hl hp
    rw [hb, hsum]
    refine congrArg Host.Outcome.next (State.completeFrame_queued hs hroom ?_)
    rw [State.checkFrame_answered _ .grantHold _ rfl]
    exact State.answerRequest_refused _ (State.serve_grantHold_badValue _ h0 h1)

/-! ### Refused request commands (R7, R8, R23) -/

/-- A well-formed request's payload fits its LEN byte (01 §1.2, log 20). -/
theorem requestOf_length {cmd : Instr} {k : ReqKind} {w : Wire} {p : List Byte} (h : requestOf cmd = some (k, w, p))
    (hw : cmd.wellFormed = true) : p.length ≤ 255 := by
  cases cmd <;> cases h
  case openSession o =>
    rw [openPayload_length]
    exact of_decide_eq_true hw
  case configure c => rw [configPayload_length]; decide
  all_goals simp [le32_length]

theorem Target.ofByte_eq_session {b : Byte} {i : SessionId} (h : Target.ofByte b = some (.session i)) : b = sessionByte i := by
  unfold Target.ofByte at h
  split_ifs at h <;> cases h <;> assumption

theorem Target.ofByte_eq_device {b : Byte} (h : Target.ofByte b = some .device) : b = Config.deviceTarget := by
  unfold Target.ofByte at h
  split_ifs at h <;> cases h; assumption

theorem Target.ofByte_eq_all {b : Byte} (h : Target.ofByte b = some .all) : b = Config.allTarget := by
  unfold Target.ofByte at h
  split_ifs at h <;> cases h; assumption

theorem State.serveSession_badTarget (s : State) {k : ReqKind} {i : SessionId} (p : List Byte)
    (h : k.validTarget (sessionByte i) = false) : s.serveSession k i p = none := by
  cases i <;> cases k <;> cases h <;> rfl

theorem State.serveDevice_badTarget (s : State) {k : ReqKind} (p : List Byte)
    (h : k.validTarget Config.deviceTarget = false) : s.serveDevice k p = none := by
  cases k <;> cases h <;> rfl

theorem State.serveAll_badTarget (s : State) {k : ReqKind} (h : k.validTarget Config.allTarget = false) :
    s.serveAll k = none := by
  cases k <;> cases h <;> rfl

/-- A target that the table of R8 does not give a kind is refused, and nothing changes (R8). -/
theorem State.serve_badTarget (s : State) {k : ReqKind} {target : Byte} (p : List Byte) (h : k.validTarget target = false) :
    s.serve k target p = (s, .refuse .badTarget) := by
  unfold State.serve
  split
  · next ht => rw [s.serveDevice_badTarget p (Target.ofByte_eq_device ht ▸ h)]; rfl
  · next ht => rw [s.serveSession_badTarget p (Target.ofByte_eq_session ht ▸ h)]; rfl
  · next ht => rw [s.serveAll_badTarget (Target.ofByte_eq_all ht ▸ h)]; rfl
  · rfl

/-- An OPEN whose rung count is not the number of its bitrates, or whose LEN is above 240, fails the length check
(R3, R23, log 21). -/
theorem requiredLength_openPayload_ne (o : OpenFields)
    (h : o.rungCount.toNat ≠ o.bitrates.length ∨ 240 < 32 + 2 * o.bitrates.length) :
    ReqKind.requiredLength .openSession (openPayload o) ≠ some (openPayload o).length := by
  have hrung : byteAt (openPayload o) 1 = o.rungCount.toNat := rfl
  have hmax : Config.maxLength = 240 := rfl
  rw [openPayload_length, OpenFields.payloadLength]
  simp only [ReqKind.requiredLength, hrung, hmax]
  split
  · simp
  · intro e
    have := Option.some.inj e
    omega

/-- A frame without a fault in its sum at a part that is ready is checked with the sum right. -/
theorem State.receiveRequest_sumRight {s : State} (h : s.linkReady) (k : ReqKind) {w : Wire} {p : List Byte}
    (hp : p.length ≤ 255) (hw : w.sumError = 0#8) {r : Reply}
    (hcheck : s.checkFrame k.code w.target (BitVec.ofNat 8 p.length) p
      (frameSum k.code w.target (BitVec.ofNat 8 p.length) p) = s.queueReply r) :
    s.receiveRequest k w p = afterReply s r := by
  obtain ⟨⟨_, _, hf, hg, _⟩, _⟩ := id h
  rw [State.receiveRequest_ready h _ _ _ hp, hw, BitVec.add_zero, hcheck, State.transmitReply_queueReply s r hf hg]

/-- Settles O11, by the first check that the frame fails. -/
theorem refusedFramesChangeNothing : Obligations.RefusedFramesChangeNothing := by
  intro cmd k w p s hreq hwf hs
  have hp := requestOf_length hreq hwf
  have hl : (BitVec.ofNat 8 p.length).toNat = p.length := by simp; omega
  rw [exec_request hreq]
  refine ⟨fun hw => ?_, fun hw hlen hbad => ?_, fun hw o hcmd hbad => ?_⟩
  · rw [State.receiveRequest_damaged hs k w p hp hw]; rfl
  · refine congrArg Host.Outcome.next (State.receiveRequest_sumRight hs k hp hw ?_)
    rw [State.checkFrame_answered s k _ (by rw [hl]; exact hlen)]
    exact State.answerRequest_refused s (State.serve_badTarget s p hbad)
  · subst hcmd
    cases hreq
    refine congrArg Host.Outcome.next (State.receiveRequest_sumRight hs .openSession hp hw ?_)
    exact State.checkFrame_lenBad s .openSession _ (by rw [hl]; exact requiredLength_openPayload_ne o hbad)

/-! ### The end of a frame with a reply left (R10, R12, R19) -/

theorem exec_frameSent {s : State} (hn : s.nrstHigh = true) : exec .frameSent s = .next s.endFrame.chooseFrame :=
  congrArg Host.Outcome.next (if_pos hn)

theorem State.endFrame_reply (s : State) {f : List Byte} (h : s.link.tx = .reply f) :
    s.endFrame = s.setLink { s.link with tx := .idle, replies := s.link.replies.tail } := by
  simp only [State.endFrame, h]

theorem State.endFrame_notice (s : State) {f : List Byte} (h : s.link.tx = .notice f) :
    s.endFrame = s.setLink { s.link with tx := .idle } := by
  simp only [State.endFrame, h]

theorem State.endFrame_idle (s : State) (h : s.link.tx = .idle) : s.endFrame = s := by
  simp only [State.endFrame, h]

/-- Settles O12: the frame in transmission ends, and the choice is the oldest reply left. -/
theorem frameSentTakesOldestReply : Obligations.FrameSentTakesOldestReply := by
  intro f r first rest s hn begun
  rw [exec_frameSent hn]
  refine ⟨fun htx hr => ?_, fun htx hr => ?_⟩
  · rw [s.endFrame_reply htx, State.chooseFrame_reply _ first rest (by rw [State.setLink_link, hr]; rfl)]
    simp only [begun, State.sendReply, State.setLink, hr, List.tail_cons]
    rfl
  · rw [s.endFrame_notice htx, State.chooseFrame_reply _ first rest (by rw [State.setLink_link, hr])]
    simp only [begun, ← hr]
    rfl

/-! ### The frame layout (R2, R24) -/

/-- The sum of bytes modulo 256, as numbers (R2). -/
theorem byteSum_toNat (p : List Byte) : (byteSum p).toNat = (p.map (·.toNat)).sum % 256 := by
  have hfold : ∀ (p : List Byte) (a : Byte), (p.foldl (· + ·) a).toNat = (a.toNat + (p.map (·.toNat)).sum) % 256 := by
    intro p
    induction p with
    | nil => intro a; have := a.isLt; simp; omega
    | cons b p ih =>
      intro a
      rw [List.foldl_cons, ih, BitVec.toNat_add, List.map_cons, List.sum_cons]
      omega
  simpa [byteSum] using hfold p 0#8

theorem frameSum_toNat (k t l : Byte) (p : List Byte) :
    (frameSum k t l p).toNat = (k.toNat + t.toNat + l.toNat + (p.map (·.toNat)).sum) % 256 := by
  rw [frameSum, BitVec.toNat_add, BitVec.toNat_add, BitVec.toNat_add, byteSum_toNat]
  omega

/-- Settles O14. -/
theorem frameLayout : Obligations.FrameLayout := by
  refine ⟨fun k t p hp => ⟨BitVec.ofNat 8 p.length, frameSum k t (BitVec.ofNat 8 p.length) p, ?_, ?_, ?_⟩, by decide,
    fun n => ⟨⟨rfl, ?_⟩, ⟨rfl, ?_⟩, rfl, ?_⟩⟩
  · simp [frameBytes, Config.sync]
  · simp; omega
  · exact frameSum_toNat _ _ _ _
  · simp [put8, byteAt]
  · exact join16 _ (by omega)
  · have hjoin := join32 (min n 0xFFFFFFFF) (by omega)
    simp only [put32, bytes16, byteAt, List.cons_append, List.nil_append, List.getD_cons_zero, List.getD_cons_succ]
    omega

/-! ### HELLO (R22) and the expiries that do not fall (R4, R27) -/

/-- Settles O15. -/
theorem helloReportsPart : Obligations.HelloReportsPart := by
  intro s hs
  obtain ⟨⟨_, _, hf, hg, _⟩, _⟩ := id hs
  rw [exec_request rfl, State.receiveRequest_served hs .hello 0x0E#8 [] (by decide) rfl rfl hf hg]
  rfl

theorem isDue_iff (expiry : Option PartTime) (now : PartTime) : isDue expiry now = true ↔ expiry = some now := beq_iff_eq

/-- An activity expiry that is not armed at the present part time does not fall (R27, R156). -/
theorem State.fallActivity_idle {s : State} {i : SessionId}
    (h : ∀ f, (s.session i).fetch = some f → f.activityExpiry ≠ s.partTime) : s.fallActivity i = s := by
  unfold State.fallActivity
  split
  · rfl
  · next f hf => exact if_neg (h f hf)

/-- Settles O46, expiry by expiry. -/
theorem onlyDueExpiriesFall : Obligations.OnlyDueExpiriesFall := by
  intro s hn
  have hnot : ∀ {expiry : Option PartTime}, expiry ≠ some s.partTime → ¬ isDue expiry s.partTime = true :=
    fun h => mt (isDue_iff _ _).mp h
  have hrun : ∀ t : State, whileRunning s t = .next t := fun t => congrArg Host.Outcome.next (if_pos hn)
  have hidle : ∀ {t : State}, t = s → whileRunning s t = .next s := fun h => (hrun _).trans (congrArg _ h)
  refine ⟨fun h => ?_, fun h => hidle (if_neg (hnot h)), fun h => ?_, fun h => hidle (if_neg (hnot h)),
    fun i => ⟨fun h => hidle (if_neg (hnot h)), fun h => hidle (if_neg (hnot h)), fun h => hidle (if_neg (hnot h)),
      fun h => hidle (State.fallActivity_idle h)⟩⟩
  · exact (hrun _).trans (congrArg _ (if_pos ((isDue_iff _ _).mpr h)))
  · exact congrArg Host.Outcome.next ((if_pos hn).trans (if_neg (hnot h)))

end Sys2Proof.Machine

/-! FRAME_SENT with no reply left, and the choice that the next event finds made (O13; R15, R19, R20, R174, R181). -/

namespace Sys2Proof.Machine

open Sys2Proof

/-! ### The turn in the cyclic order (R20) -/

theorem NoticeSource.mem_turnsAfter (last src : NoticeSource) : src ∈ last.turnsAfter := by
  rcases last with _ | (_ | _ | _ | _) <;> rcases src with _ | (_ | _ | _ | _) <;> decide

/-- The sources stand in the order of the turns to them. -/
theorem NoticeSource.turnsAfter_pairwise (last : NoticeSource) :
    last.turnsAfter.Pairwise fun a b => last.turnsTo a < last.turnsTo b := by
  rcases last with _ | (_ | _ | _ | _) <;> decide

theorem NoticeSource.place_le (src : NoticeSource) : src.place ≤ 4 := by
  rcases src with _ | (_ | _ | _ | _) <;> decide

theorem NoticeSource.place_inj {a b : NoticeSource} : a.place = b.place → a = b := by
  rcases a with _ | (_ | _ | _ | _) <;> rcases b with _ | (_ | _ | _ | _) <;> decide

theorem NoticeSource.turnsTo_inj {last a b : NoticeSource} (h : last.turnsTo a = last.turnsTo b) : a = b := by
  have := last.place_le
  have := a.place_le
  have := b.place_le
  unfold NoticeSource.turnsTo at h
  exact NoticeSource.place_inj (by omega)

/-- The source found is the one whose turn it is. -/
theorem State.hasTurn_of_nextSource {s : State} {src : NoticeSource} (h : s.nextSource = some src) : s.hasTurn src := by
  obtain ⟨hp, before, behind, hl, hno⟩ := List.find?_eq_some_iff_append.mp h
  refine ⟨hp, fun other ho => ?_⟩
  have hmem := s.link.rotation.mem_turnsAfter other
  have hsorted := s.link.rotation.turnsAfter_pairwise
  rw [hl, List.mem_append, List.mem_cons] at hmem
  rw [hl, List.pairwise_append, List.pairwise_cons] at hsorted
  obtain ⟨_, ⟨hbehind, _⟩, _⟩ := hsorted
  obtain hb | rfl | hb := hmem
  · have := hno other hb
    simp [ho] at this
  · exact Nat.le_refl _
  · exact Nat.le_of_lt (hbehind other hb)

theorem State.hasNotice_of_nextSource_none {s : State} (h : s.nextSource = none) (src : NoticeSource) :
    s.hasNotice src = false := by
  simpa using List.find?_eq_none.mp h src (s.link.rotation.mem_turnsAfter src)

/-- The source whose turn it is is found (R20). -/
theorem State.hasTurn.nextSource {s : State} {src : NoticeSource} (h : s.hasTurn src) : s.nextSource = some src := by
  obtain ⟨hp, hfirst⟩ := h
  cases hn : s.nextSource with
  | none =>
    rw [State.hasNotice_of_nextSource_none hn src] at hp
    cases hp
  | some found =>
    obtain ⟨hq, hfound⟩ := State.hasTurn_of_nextSource hn
    rw [NoticeSource.turnsTo_inj (Nat.le_antisymm (hfound src hp) (hfirst found hq))]

/-! ### What each kind of notice is (R15, R147, R162) -/

section FirstNotice

variable {s : State} {i : SessionId}

theorem State.firstNotice_cancel {c : CancelContent} (hc : (s.notices i).cancel = some c) :
    s.firstNotice i = some ⟨{ s.notices i with cancel := none }, (s.session i).skipCount, 0x41#8, c.payload⟩ := by
  simp [State.firstNotice, hc]

variable (hc : (s.notices i).cancel = none)
include hc

theorem State.firstNotice_order (ho : (s.notices i).order = true) :
    s.firstNotice i = some ⟨{ s.notices i with order := false }, (s.session i).skipCount, 0x40#8,
      orderPayload (s.session i).fetch⟩ := by
  simp [State.firstNotice, hc, ho]

variable (ho : (s.notices i).order = false)
include ho

theorem State.firstNotice_skip (hk : (s.notices i).skip = true) :
    s.firstNotice i = some ⟨{ s.notices i with skip := false }, 0, 0x42#8,
      put32 (s.session i).skipFirst ++ put8 (s.session i).skipCount⟩ := by
  simp [State.firstNotice, hc, ho, hk]

variable (hk : (s.notices i).skip = false)
include hk

theorem State.firstNotice_stall {at' : PartTime} (ht : (s.notices i).stall = some at') :
    s.firstNotice i = some ⟨{ s.notices i with stall := none }, (s.session i).skipCount, 0x43#8,
      put8 (s.session i).stallCount ++ putTime at'⟩ := by
  simp [State.firstNotice, hc, ho, hk, ht]

variable (ht : (s.notices i).stall = none)
include ht

theorem State.firstNotice_ready (hr : (s.notices i).ready = true) :
    s.firstNotice i = some ⟨{ s.notices i with ready := false }, (s.session i).skipCount, 0x44#8, put32 (s.level i)⟩ := by
  simp [State.firstNotice, hc, ho, hk, ht, hr]

theorem State.firstNotice_fault (hr : (s.notices i).ready = false) (hf : (s.notices i).fault = true) :
    s.firstNotice i = some ⟨{ s.notices i with fault := false }, (s.session i).skipCount, 0x45#8, [1#8]⟩ := by
  simp [State.firstNotice, hc, ho, hk, ht, hr, hf]

end FirstNotice

/-! ### The end of a frame with no reply left (R12, R19) -/

/-- The part with nothing in transmission and no reply waiting. -/
def State.quiet (s : State) : State := { s with link := { s.link with replies := [], tx := .idle } }

/-- A frame that ends with no reply left behind it, or none in transmission, leaves the transmitter idle (R12). -/
theorem State.endFrame_quiet {s : State} {f : List Byte} (h : (s.link.tx = .notice f ∧ s.link.replies = []) ∨
    (s.link.tx = .reply f ∧ s.link.replies.length = 1) ∨ (s.link.tx = .idle ∧ s.link.replies = [])) :
    s.endFrame = s.quiet := by
  obtain ⟨ht, hr⟩ | ⟨ht, hr⟩ | ⟨ht, hr⟩ := h
  · rw [s.endFrame_notice ht, State.quiet, ← hr]; rfl
  · have htail : s.link.replies.tail = [] := List.eq_nil_of_length_eq_zero (by rw [List.length_tail, hr])
    rw [s.endFrame_reply ht, htail]; rfl
  · rw [s.endFrame_idle ht, State.quiet, ← hr, ← ht]

theorem State.chooseFrame_device {s : State} (hr : s.link.replies = []) (hb : s.link.replyBegun = true)
    (h : s.nextSource = some .device) : s.chooseFrame = s.sendLinkNotice := by
  rw [s.chooseFrame_notice hr hb, State.chooseNotice, h]

theorem State.chooseFrame_session {s : State} (hr : s.link.replies = []) (hb : s.link.replyBegun = true) {i : SessionId}
    (h : s.nextSource = some (.session i)) {turn : NoticeTurn} (ht : s.firstNotice i = some turn) :
    s.chooseFrame = s.takeTurn i turn := by
  rw [s.chooseFrame_notice hr hb, State.chooseNotice, h]
  show s.sendSessionNotice i = _
  rw [s.sendSessionNotice_eq, ht]
  rfl

/-- A turn that leaves the skip count writes no session. -/
theorem State.takeTurn_keep (s : State) (i : SessionId) (n : NoticeSet) (kind : Byte) (payload : List Byte) :
    s.takeTurn i ⟨n, (s.session i).skipCount, kind, payload⟩ = { s with link := { s.link with
      notices := s.link.notices.set i n, rotation := .session i, tx := .notice (frameBytes kind (sessionByte i) payload 0#8) } } := by
  have h : s.sessions.set i (s.session i) = s.sessions := Four.set_get _ _
  simp only [State.takeTurn, h]

/-! ### The choice an event finds made (R19, log 23) -/

/-- Once made, the choice leaves an idle transmitter nothing to send. -/
theorem State.leaveIdle_transmitterServed (s : State) : s.leaveIdle.transmitterServed := by
  by_cases ht : s.link.tx = .idle
  · rw [s.leaveIdle_idle ht]
    obtain ⟨r, _, _, e⟩ | ⟨hr, hb, e⟩ | ⟨hr, _, e⟩ := s.chooseFrame_cases <;> rw [e]
    · exact fun hidle => nomatch hidle
    · exact fun _ => ⟨hr, fun hb' => by rw [hb] at hb'; cases hb'⟩
    · obtain ⟨hn, e⟩ | ⟨f, hf⟩ := s.chooseNotice_tx
      · rw [e]
        have hnone := State.hasNotice_of_nextSource_none hn
        exact fun _ => ⟨hr, fun _ => ⟨hnone .device, fun i => by simpa [State.hasNotice] using hnone (.session i)⟩⟩
      · exact fun hidle => by rw [hf] at hidle; cases hidle
  · rw [s.leaveIdle_sending ht]
    exact fun hidle => absurd hidle ht

@[simp] theorem State.leaveIdle_leaveIdle (s : State) : s.leaveIdle.leaveIdle = s.leaveIdle :=
  State.leaveIdle_served _ s.leaveIdle_transmitterServed

/-- The state with other contents of the fields that the choice neither reads nor writes: the receiver's, the rise of RDY, and
the held sample. -/
def State.besideChoice (s : State) (framer : Framer) (gap rdyExpiry : Option PartTime) (rdyRisen : Bool)
    (held : Option Code) : State :=
  { s with
    link := { s.link with framer := framer, gap := gap, rdyExpiry := rdyExpiry, rdyRisen := rdyRisen }
    contention := { s.contention with held := held } }

theorem State.chooseNotice_besideChoice (s : State) (f : Framer) (g e : Option PartTime) (r : Bool) (h : Option Code) :
    (s.besideChoice f g e r h).chooseNotice = s.chooseNotice.besideChoice f g e r h := by
  have hnext : (s.besideChoice f g e r h).nextSource = s.nextSource := rfl
  obtain ⟨hn, hc⟩ | ⟨hn, hc⟩ | ⟨i, turn, hn, ht, hc⟩ := s.chooseNotice_cases <;>
    rw [hc, State.chooseNotice, hnext, hn]
  · rfl
  · show (s.besideChoice f g e r h).sendSessionNotice i = _
    rw [State.sendSessionNotice_eq, show (s.besideChoice f g e r h).firstNotice i = s.firstNotice i from rfl, ht]
    rfl

theorem State.leaveIdle_besideChoice (s : State) (f : Framer) (g e : Option PartTime) (r : Bool) (h : Option Code) :
    (s.besideChoice f g e r h).leaveIdle = s.leaveIdle.besideChoice f g e r h := by
  by_cases ht : s.link.tx = .idle
  · rw [s.leaveIdle_idle ht, (s.besideChoice f g e r h).leaveIdle_idle ht]
    obtain ⟨q, rest, hr, hc⟩ | ⟨hr, hb, hc⟩ | ⟨hr, hb, hc⟩ := s.chooseFrame_cases <;> rw [hc]
    · rw [(s.besideChoice f g e r h).chooseFrame_reply q rest hr]; rfl
    · rw [(s.besideChoice f g e r h).chooseFrame_before_reply hr hb]
    · rw [(s.besideChoice f g e r h).chooseFrame_notice hr hb, s.chooseNotice_besideChoice]
  · rw [s.leaveIdle_sending ht, (s.besideChoice f g e r h).leaveIdle_sending ht]

/-- A part of an event makes the choice of an idle transmitter, or leaves it as it was to make. -/
def ChoiceKept (f : State → State) : Prop := ∀ s, f s.leaveIdle = f s ∨ f s.leaveIdle = (f s).leaveIdle

theorem ChoiceKept.comp {f g : State → State} (hf : ChoiceKept f) (hg : ChoiceKept g) : ChoiceKept fun s => g (f s) := by
  intro s
  dsimp only
  rcases hf s with h | h
  · exact .inl (by rw [h])
  · rw [h]; exact hg (f s)

theorem ChoiceKept.foldl {α : Type} {f : State → α → State} (hf : ∀ a, ChoiceKept fun s => f s a) (l : List α) :
    ChoiceKept fun s => l.foldl f s := by
  induction l with
  | nil => exact fun s => .inr rfl
  | cons a l ih => exact (hf a).comp ih

/-- With the choice at its end, an event acts alike before and after the choice. -/
theorem ChoiceKept.leaveIdle {f : State → State} (hf : ChoiceKept f) (s : State) :
    (f s.leaveIdle).leaveIdle = (f s).leaveIdle := by
  rcases hf s with h | h <;> rw [h]
  exact State.leaveIdle_leaveIdle _

/-- An expiry falls on the state after the choice when it is due, and otherwise nothing happens; the choice leaves it as due as
it was. -/
structure FallsAfterChoice (due : State → Bool) (f : State → State) : Prop where
  falls : ∀ s, due s = true → f s.leaveIdle = f s
  idles : ∀ s, due s = false → f s = s
  sameDue : ∀ s, due s.leaveIdle = due s

theorem FallsAfterChoice.ofIte {due : State → Bool} (hdue : ∀ s, due s.leaveIdle = due s) (g : State → State) :
    FallsAfterChoice due fun s => if due s then g s.leaveIdle else s where
  falls := fun s h => by rw [if_pos ((hdue s).trans h), if_pos h, s.leaveIdle_leaveIdle]
  idles := fun s h => if_neg (by simp [h])
  sameDue := hdue

theorem FallsAfterChoice.choiceKept {due : State → Bool} {f : State → State} (h : FallsAfterChoice due f) : ChoiceKept f := by
  intro s
  cases hs : due s with
  | true => exact .inl (h.falls s hs)
  | false => exact .inr (by rw [h.idles s hs, h.idles s.leaveIdle ((h.sameDue s).trans hs)])

/-! ### Each part of an advance -/

theorem State.fallStall_afterChoice (i : SessionId) :
    FallsAfterChoice (fun s => isDue (s.session i).stallExpiry s.partTime) (·.fallStall i) :=
  .ofIte (fun s => by rw [s.leaveIdle_only.stallExpiry, s.leaveIdle_only.partTime]) (·.stallNow i)

theorem State.fallLow_afterChoice (i : SessionId) :
    FallsAfterChoice (fun s => isDue (s.session i).lowExpiry s.partTime) (·.fallLow i) :=
  .ofIte (fun s => by rw [s.leaveIdle_only.lowExpiry, s.leaveIdle_only.partTime]) (·.lowNow i)

theorem State.fallRefill_afterChoice (i : SessionId) :
    FallsAfterChoice (fun s => isDue (s.session i).refillExpiry s.partTime) (·.fallRefill i) :=
  .ofIte (fun s => by rw [s.leaveIdle_only.refillExpiry, s.leaveIdle_only.partTime]) (·.refillNow i)

theorem State.fallWindow_afterChoice :
    FallsAfterChoice (fun s => isDue s.meter.windowExpiry s.partTime) State.fallWindow :=
  .ofIte (fun s => by rw [s.leaveIdle_only.meter, s.leaveIdle_only.partTime]) State.windowNow

theorem State.fallActivity_due {s : State} {i : SessionId} {f : FetchRecord} (hf : (s.session i).fetch = some f)
    (hdue : f.activityExpiry = s.partTime) : s.fallActivity i = s.leaveIdle.failFetch i f (some .timeout) := by
  simp only [State.fallActivity, hf, hdue, if_true]

/-- A due activity expiry finds the choice made. -/
theorem State.fallActivity_leaveIdle {s : State} {i : SessionId} {f : FetchRecord} (hf : (s.session i).fetch = some f)
    (hdue : f.activityExpiry = s.partTime) : s.leaveIdle.fallActivity i = s.fallActivity i := by
  have ho := s.leaveIdle_only
  rw [State.fallActivity_due hf hdue, State.fallActivity_due ((ho.fetch i).trans hf) (hdue.trans ho.partTime.symm),
    s.leaveIdle_leaveIdle]

theorem ChoiceKept.fallActivity (i : SessionId) : ChoiceKept fun s => s.fallActivity i := by
  intro s
  have ho := s.leaveIdle_only
  by_cases h : ∃ f, (s.session i).fetch = some f ∧ f.activityExpiry = s.partTime
  · obtain ⟨f, hf, hdue⟩ := h
    exact .inl (State.fallActivity_leaveIdle hf hdue)
  · refine .inr ?_
    dsimp only
    rw [State.fallActivity_idle fun f hf hdue => h ⟨f, hf, hdue⟩, State.fallActivity_idle fun f hf hdue => h
      ⟨f, (ho.fetch i).symm.trans hf, hdue.trans ho.partTime⟩]

/-- The gap expiry writes beside the choice (R4). -/
theorem ChoiceKept.fallGap : ChoiceKept State.fallGap := by
  intro s
  have ho := s.leaveIdle_only
  refine .inr ?_
  unfold State.fallGap
  rw [ho.gap, ho.partTime]
  split
  · have hreset : ∀ t : State, t.resetFramer =
        t.besideChoice .hunt none t.link.rdyExpiry t.link.rdyRisen t.contention.held := fun _ => rfl
    rw [hreset s, s.leaveIdle_besideChoice, hreset, ho.rdyExpiry, ho.rdyRisen, ho.contention]
  · rfl

/-- The first rise of RDY writes beside the choice (R180). -/
theorem ChoiceKept.fallRdy : ChoiceKept State.fallRdy := by
  intro s
  have ho := s.leaveIdle_only
  refine .inr ?_
  unfold State.fallRdy
  rw [ho.rdyExpiry, ho.partTime]
  split
  · have hrise : ∀ t : State, t.setLink { t.link with rdyExpiry := none, rdyRisen := true } =
        t.besideChoice t.link.framer t.link.gap none true t.contention.held := fun _ => rfl
    rw [hrise s, s.leaveIdle_besideChoice, hrise, ho.framer, ho.gap, ho.contention]
  · rfl

theorem State.settleSample_none {s : State} (h : s.contention.held = none) : s.settleSample = s := by
  simp only [State.settleSample, h]

/-- Dealing with a sample reads the contention code, and of the rest only the state after the choice. -/
theorem State.dealWithSample_congr {s t : State} (code : Code) (hc : t.contention = s.contention)
    (hl : t.leaveIdle = s.leaveIdle) : t.dealWithSample code = s.dealWithSample code := by
  simp only [State.dealWithSample, hc, hl]

/-- A held sample that is dealt with finds the choice made. -/
theorem State.settleSample_leaveIdle {s : State} (h : s.contention.held ≠ none) :
    s.leaveIdle.settleSample = s.settleSample := by
  have ho := s.leaveIdle_only
  obtain ⟨code, hcode⟩ := Option.ne_none_iff_exists'.mp h
  simp only [State.settleSample, ho.contention, hcode]
  refine State.dealWithSample_congr code rfl ?_
  have hdrop : ∀ t : State, t.setContention { t.contention with held := none } =
      t.besideChoice t.link.framer t.link.gap t.link.rdyExpiry t.link.rdyRisen none := fun _ => rfl
  have hsame := hdrop s.leaveIdle
  rw [ho.contention] at hsame
  rw [hsame, hdrop s, State.leaveIdle_besideChoice, State.leaveIdle_besideChoice, s.leaveIdle_leaveIdle, ho.framer, ho.gap,
    ho.rdyExpiry, ho.rdyRisen]

theorem ChoiceKept.settleSample : ChoiceKept State.settleSample := by
  intro s
  by_cases h : s.contention.held = none
  · exact .inr (by rw [State.settleSample_none h, State.settleSample_none (s.leaveIdle_only.contention ▸ h)])
  · exact .inl (State.settleSample_leaveIdle h)

/-- An advance finds the choice made (R19). -/
theorem State.takeAllDue_leaveIdle (s : State) : s.leaveIdle.takeAllDue = s.takeAllDue := by
  have hsession : ∀ i, ChoiceKept fun t => (((t.fallActivity i).fallStall i).fallRefill i).fallLow i := fun i =>
    (((ChoiceKept.fallActivity i).comp (State.fallStall_afterChoice i).choiceKept).comp
      (State.fallRefill_afterChoice i).choiceKept).comp (State.fallLow_afterChoice i).choiceKept
  have hbefore : ChoiceKept fun t => t.fallGap.fallRdy.settleSample.fallWindow :=
    ((ChoiceKept.fallGap.comp .fallRdy).comp .settleSample).comp State.fallWindow_afterChoice.choiceKept
  exact (hbefore.comp (.foldl hsession Idx4.all)).leaveIdle s

/-! ### A request that clears no notice whose turn it is (R174, R181) -/

theorem requestOf_reset {cmd : Instr} {w : Wire} {p : List Byte} (h : requestOf cmd = some (.reset, w, p)) :
    p = [1#8] ∨ p = [2#8] := by
  cases cmd <;> cases h
  · exact .inl rfl
  · exact .inr rfl

/-- A command's frame clears the notice whose turn it is only as a CLOSE or RESET does (R18, R47, R178, R179). -/
theorem State.requestClears_of_clearsNext {s : State} {cmd : Instr} {k : ReqKind} {w : Wire} {p : List Byte}
    (hreq : requestOf cmd = some (k, w, p)) {len : Byte}
    (h : s.clearsNext k.code w.target len p (frameSum k.code w.target len p + w.sumError) = true) :
    ∃ src, s.hasTurn src ∧ s.requestClears k w p src := by
  simp only [State.clearsNext, ReqKind.ofCode_code, Option.elim_some, Bool.and_eq_true, beq_iff_eq] at h
  obtain ⟨hsum, -, h⟩ := h
  have hw : w.sumError = 0#8 := by simpa using hsum
  split at h
  · next i j ht hn =>
    simp only [Bool.and_eq_true, beq_iff_eq] at h
    obtain ⟨rfl, hopen⟩ := h
    exact ⟨_, State.hasTurn_of_nextSource hn, hw, .inl ⟨rfl, i, rfl, Target.ofByte_eq_session ht,
      by simpa [Session.isOpen] using hopen⟩⟩
  · next ht hn =>
    refine ⟨_, State.hasTurn_of_nextSource hn, hw, .inr ⟨rfl, Target.ofByte_eq_device ht, ?_⟩⟩
    exact (requestOf_reset hreq).imp (fun hp => ⟨hp, nofun⟩) id
  · next ht hn =>
    refine ⟨_, State.hasTurn_of_nextSource hn, hw, .inr ⟨rfl, Target.ofByte_eq_device ht, .inr ?_⟩⟩
    obtain rfl | hp := requestOf_reset hreq
    · cases h
    · exact hp
  · cases h

/-- What `followsChoice` asks of a request. -/
theorem State.followsChoice_request {s : State} {cmd : Instr} {k : ReqKind} {w : Wire} {p : List Byte}
    (hreq : requestOf cmd = some (k, w, p)) (h : s.followsChoice cmd) :
    s.linkOpen ∧ cmd.wellFormed = true ∧ ∀ src, s.hasTurn src → ¬ s.requestClears k w p src := by
  have hpart : s.linkOpen ∧ cmd.wellFormed = true ∧ ∀ (k : ReqKind) (w : Wire) (p : List Byte) (src : NoticeSource),
      requestOf cmd = some (k, w, p) → s.hasTurn src → ¬ s.requestClears k w p src := by
    cases cmd <;> cases hreq <;> exact h
  obtain ⟨hopen, hwf, hclear⟩ := hpart
  exact ⟨hopen, hwf, fun src => hclear k w p src hreq⟩

/-- A request that clears no notice whose turn it is finds the choice made (R19). -/
theorem State.receiveRequest_leaveIdle {s : State} {cmd : Instr} {k : ReqKind} {w : Wire} {p : List Byte}
    (hreq : requestOf cmd = some (k, w, p)) (h : s.followsChoice cmd) :
    s.leaveIdle.receiveRequest k w p = s.receiveRequest k w p := by
  obtain ⟨⟨hn, hr, hf, hg, _⟩, hwf, hclear⟩ := State.followsChoice_request hreq h
  have hp := requestOf_length hreq hwf
  have ho := s.leaveIdle_only
  have hnot : ¬ s.clearsNext k.code w.target (BitVec.ofNat 8 p.length) p
      (frameSum k.code w.target (BitVec.ofNat 8 p.length) p + w.sumError) = true := fun hc =>
    let ⟨src, hturn, hclears⟩ := State.requestClears_of_clearsNext hreq hc
    hclear src hturn hclears
  have hreceives : s.receives = true := by simp [State.receives, hn, hr]
  have hreceives' : s.leaveIdle.receives = true := by simp [State.receives, ho.nrstHigh, ho.rdyRisen, hn, hr]
  rw [State.receiveRequest, State.receiveRequest, State.receiveAll_frame s _ _ _ _ hreceives hf hg hp,
    State.receiveAll_frame s.leaveIdle _ _ _ _ hreceives' (ho.framer.trans hf) (ho.gap.trans hg) hp,
    State.completeFrame_served _ s.leaveIdle_transmitterServed, State.completeFrame, if_neg hnot]

/-! ### The obligation -/

/-- An event that is no request and that falls finds the choice of an idle transmitter made (R19, log 23). -/
theorem exec_event_leaveIdle {s : State} {cmd : Instr} (hn : s.nrstHigh = true) (hreq : requestOf cmd = none)
    (h : s.followsChoice cmd) : exec cmd s = exec cmd s.leaveIdle := by
  have hrun : ∀ {t t' : State}, t' = t → whileRunning s t = whileRunning s.leaveIdle t' := fun h => by
    simp only [whileRunning, s.leaveIdle_only.nrstHigh, hn, h, if_true]
  cases cmd <;> cases hreq
  case partTimeAdvance how =>
    refine hrun ?_
    cases how with
    | atOnce cc => simp only [State.advanceAs, State.advance, s.takeAllDue_leaveIdle]
    | hold cc => simp only [State.advanceAs, State.advance, s.takeAllDue_leaveIdle]
    | settle => exact State.settleSample_leaveIdle h
  case activityExpiry i =>
    obtain ⟨f, hf, hdue⟩ := h
    exact hrun (State.fallActivity_leaveIdle hf hdue)
  case stallExpiry i => exact hrun ((State.fallStall_afterChoice i).falls s ((isDue_iff _ _).mpr h))
  case lowExpiry i => exact hrun ((State.fallLow_afterChoice i).falls s ((isDue_iff _ _).mpr h))
  case refillExpiry i => exact hrun ((State.fallRefill_afterChoice i).falls s ((isDue_iff _ _).mpr h))
  case windowExpiry => exact hrun (State.fallWindow_afterChoice.falls s ((isDue_iff _ _).mpr h))
  all_goals cases h

/-- An event that comes after another finds the choice of an idle transmitter made (R19, log 23). -/
theorem exec_leaveIdle {s : State} {cmd : Instr} (hn : s.nrstHigh = true) (h : s.followsChoice cmd) :
    exec cmd s = exec cmd s.leaveIdle := by
  cases hreq : requestOf cmd with
  | none => exact exec_event_leaveIdle hn hreq h
  | some request => rw [exec_request hreq, exec_request hreq, State.receiveRequest_leaveIdle hreq h]

/-- Settles O13: the end of a frame by `endFrame_quiet`, the notice by the source whose turn it is, and what follows by
`exec_leaveIdle`. -/
theorem frameSentSendsNotice : Obligations.FrameSentSendsNotice := by
  constructor
  · intro f s hn hend still
    have hstill : still = s.quiet := rfl
    have hexec : exec .frameSent s = .next s.quiet.chooseFrame := by rw [exec_frameSent hn, State.endFrame_quiet hend]
    have hnext : ∀ {src}, s.hasTurn src → s.quiet.nextSource = some src := fun h => State.hasTurn.nextSource h
    rw [hexec]
    refine ⟨?_, fun hnone => ?_, fun hb => ?_⟩
    · rw [hstill, exec_frameSent (s := s.quiet) hn, State.endFrame_idle _ rfl]
    · rw [hstill]
      cases hb : s.link.replyBegun with
      | false => rw [s.quiet.chooseFrame_before_reply rfl hb]
      | true =>
        have hnone := hnone.resolve_left (by simp [hb])
        rw [s.quiet.chooseFrame_notice rfl hb, s.quiet.chooseNotice_none hnone]
    intro sent
    constructor
    · intro hturn
      rw [State.chooseFrame_device (s := s.quiet) rfl hb (hnext hturn)]
      rfl
    intro i hturn n r out
    have hsend : ∀ {turn}, s.quiet.firstNotice i = some turn → s.quiet.chooseFrame = s.quiet.takeTurn i turn :=
      fun ht => State.chooseFrame_session (s := s.quiet) rfl hb (hnext hturn) ht
    have hkeep : ∀ {n' kind payload},
        s.quiet.firstNotice i = some ⟨n', (s.quiet.session i).skipCount, kind, payload⟩ →
        s.quiet.chooseFrame = { s with link := out n' kind payload } :=
      fun ht => (hsend ht).trans (s.quiet.takeTurn_keep i _ _ _)
    refine ⟨fun c hc => ?_, fun e hc ho he => ?_, fun hc ho hk => ?_, fun at' hc ho hk ht => ?_, fun hc ho hk ht hr => ?_,
      fun hc ho hk ht hr hf => ?_⟩
    · rw [hkeep (State.firstNotice_cancel (s := s.quiet) hc)]
      obtain ⟨tag, reason⟩ := c
      cases reason <;> rfl
    · rw [hkeep (State.firstNotice_order (s := s.quiet) hc ho), show (s.quiet.session i).fetch = some e from he]
      rfl
    · rw [hsend (State.firstNotice_skip (s := s.quiet) hc ho hk)]
      rfl
    · exact congrArg Host.Outcome.next (hkeep (State.firstNotice_stall (s := s.quiet) hc ho hk ht))
    · exact congrArg Host.Outcome.next (hkeep (State.firstNotice_ready (s := s.quiet) hc ho hk ht hr))
    · exact congrArg Host.Outcome.next (hkeep (State.firstNotice_fault (s := s.quiet) hc ho hk ht hr hf))
  · intro cmd s hn hidle hfollows
    refine ⟨s.leaveIdle, ?_, s.leaveIdle_transmitterServed, exec_leaveIdle hn hfollows⟩
    rw [exec_frameSent hn, s.endFrame_idle hidle, s.leaveIdle_idle hidle]

end Sys2Proof.Machine

/-! PLAY and PAUSE of one session, and of all (O29; R21, R72, R73, R75). -/

namespace Sys2Proof.Machine

open Sys2Proof

/-! ### What PLAY and PAUSE write of one session -/

/-- All that PLAY and PAUSE may write of a record: its state, stored level, reference time, expiries, stall count and
autostart, with the level at the present part time kept (R61, R73). -/
structure ControlOnly (now : PartTime) (r r' : Session) : Prop where
  fields : r' = { r with
    state := r'.state, storedLevel := r'.storedLevel, refTime := r'.refTime, stallExpiry := r'.stallExpiry,
    lowExpiry := r'.lowExpiry, refillExpiry := r'.refillExpiry, stallCount := r'.stallCount, autostart := r'.autostart }
  level : r'.level now = r.level now

theorem ControlOnly.refl (now : PartTime) (r : Session) : ControlOnly now r r := ⟨rfl, rfl⟩

/-- The level in force, written, is the level (R60, R61). -/
theorem Session.movedTo_control (r : Session) (now : PartTime) (st : SessionState) : ControlOnly now r (r.movedTo now st) := by
  refine ⟨rfl, ?_⟩
  show Session.level { r with storedLevel := r.level now, refTime := now, state := st } now = _
  simp [Session.level]

theorem Session.stallsOnPlay_iff (r : Session) :
    r.stallsOnPlay = true ↔ (r.state = .primed ∨ r.state = .paused) ∧ r.storedLevel = 0 ∧ r.allFetched = false := by
  simp [Session.stallsOnPlay, and_assoc]

theorem Session.stalledAtZero_control {r : Session} (now : PartTime) (h : r.stallsOnPlay = true) :
    ControlOnly now r (r.stalledAtZero now) := by
  obtain ⟨hst, hlevel, _⟩ := r.stallsOnPlay_iff.mp h
  refine ⟨rfl, ?_⟩
  rw [r.level_of_not_playing now (by rcases hst with h | h <;> simp [h]), hlevel]
  rfl

theorem Session.afterPlay_control (r : Session) (now : PartTime) : ControlOnly now r (r.afterPlay now) := by
  have hmove : ControlOnly now r
      (if r.stallsOnPlay then r.stalledAtZero now else r.movedTo now (if r.storedLevel = 0 then .ended else .playing)) := by
    split
    · next h => exact Session.stalledAtZero_control now h
    · exact r.movedTo_control now _
  unfold Session.afterPlay
  split
  · exact ⟨rfl, rfl⟩
  · exact hmove
  · exact hmove
  all_goals exact .refl now r

theorem Session.afterPause_control (r : Session) (now : PartTime) : ControlOnly now r (r.afterPause now) := by
  unfold Session.afterPause
  split
  · exact ⟨rfl, rfl⟩
  · exact r.movedTo_control now _
  · exact r.movedTo_control now _
  all_goals exact .refl now r

/-- A record with the arbiter's part of it, as another state has it: the fetch record, the tag counter and the constraint. -/
def Session.withArbiterPart (r q : Session) : Session :=
  { r with fetch := q.fetch, tagCounter := q.tagCounter, rungLimit := q.rungLimit }

theorem ArbiterOnly.session_eq {s t : State} (h : ArbiterOnly s t) (i : SessionId) :
    t.session i = (s.session i).withArbiterPart (t.session i) := h.session i

theorem Session.afterPlay_withArbiterPart (r q : Session) (now : PartTime) :
    (r.withArbiterPart q).afterPlay now = (r.afterPlay now).withArbiterPart q := by
  have hstalls : (r.withArbiterPart q).stallsOnPlay = r.stallsOnPlay := rfl
  have hstate : (r.withArbiterPart q).state = r.state := rfl
  unfold Session.afterPlay
  rw [hstalls, hstate]
  cases r.state <;> cases r.stallsOnPlay <;> rfl

theorem Session.afterPause_withArbiterPart (r q : Session) (now : PartTime) :
    (r.withArbiterPart q).afterPause now = (r.afterPause now).withArbiterPart q := by
  have hstate : (r.withArbiterPart q).state = r.state := rfl
  unfold Session.afterPause
  rw [hstate]
  cases r.state <;> rfl

/-! ### PLAY and PAUSE of one session between acts of the arbiter -/

/-- One session's record and pending set replaced. -/
def State.withControl (s : State) (i : SessionId) (r : Session) (n : NoticeSet) : State :=
  { s with sessions := s.sessions.set i r, link := { s.link with notices := s.link.notices.set i n } }

theorem State.session_withControl (s : State) (i j : SessionId) (r : Session) (n : NoticeSet) :
    (s.withControl i r n).session j = if j = i then r else s.session j := Four.get_set _ _ _ _

theorem State.notices_withControl (s : State) (i j : SessionId) (r : Session) (n : NoticeSet) :
    (s.withControl i r n).notices j = if j = i then n else s.notices j := Four.get_set _ _ _ _

theorem State.withControl_keep (s : State) (i : SessionId) (r : Session) :
    s.withControl i r (s.notices i) = s.setSession i r := by
  have h : s.link.notices.set i (s.notices i) = s.link.notices := Four.set_get _ _
  simp only [State.withControl, State.setSession, h]

/-- What a grant creates does not read what PLAY and PAUSE write (R115 to R121, R145). -/
theorem State.granted_withControl {s : State} {i j : SessionId} {r : Session} {n : NoticeSet} {tag : Byte} {f : FetchRecord}
    (hr : ControlOnly s.partTime (s.session i) r) (g : s.granted j tag f) : (s.withControl i r n).granted j tag f := by
  obtain ⟨g1, g2, g3, g4, g5, g6, g7, g8, g9, g10, limit, wsum, hl, hm, hrung⟩ := g
  have hj : ControlOnly s.partTime (s.session j) ((s.withControl i r n).session j) := by
    rw [s.session_withControl]
    split
    · next h => subst h; exact hr
    · exact .refl _ _
  have hlevel : (s.withControl i r n).level j = s.level j := hj.level
  have hf := hj.fields
  refine ⟨g1, g2.trans ?_, g3.trans ?_, g4, g5, g6, g7, g8.trans ?_, g9.trans ?_, g10, limit, wsum, hl.imp_left fun e => e.trans ?_,
    hm.trans ?_, hrung.trans ?_⟩
  · rw [hf]
  · rw [hf]; rfl
  · rw [hf]
  · rw [hf]
  · rw [hf]; rfl
  · rw [hlevel, hf]; rfl
  · rw [hf]

/-- PLAY or PAUSE of a session after acts of the arbiter is PLAY or PAUSE of it before them. -/
theorem ArbiterOnly.withControl {s t : State} (h : ArbiterOnly s t) (i : SessionId) {r : Session} {n n' : NoticeSet}
    (hr : ControlOnly s.partTime (s.session i) r) (hn : n' = { n with order := (t.notices i).order, cancel := (t.notices i).cancel })
    (hkept : n.order = (s.notices i).order ∧ n.cancel = (s.notices i).cancel) :
    ArbiterOnly (s.withControl i r n) (t.withControl i (r.withArbiterPart (t.session i)) n') := by
  obtain ⟨hno, hnc⟩ := hkept
  have hf := hr.fields
  have hfetch : r.fetch = (s.session i).fetch := by rw [hf]
  have htag : r.tagCounter = (s.session i).tagCounter := by rw [hf]
  have hlimit : r.rungLimit = (s.session i).rungLimit := by rw [hf]
  refine ⟨h.nrstHigh, h.partTime, h.contention, h.settings, h.pending, h.hold, h.doneGrants, h.meter, ?_, fun j => ?_,
    fun j => ?_, fun j => ?_, fun j f hjf => ?_, fun j => ?_⟩
  · simp only [State.withControl]
    rw [h.link]
  · rw [State.notices_withControl, State.notices_withControl]
    split
    · rw [hn]
    · exact h.notices j
  · rw [State.session_withControl, State.session_withControl]
    split
    · rfl
    · exact h.session j
  · rw [State.session_withControl, State.session_withControl]
    split
    · rw [hlimit]; exact h.limit i
    · exact h.limit j
  · rw [State.session_withControl] at hjf ⊢
    have hold : ((s.session j).fetch = some f ∧ (t.session j).tagCounter = (s.session j).tagCounter) ∨
        s.granted j (t.session j).tagCounter f := h.record j f (by
      split at hjf
      · next hj => subst hj; exact hjf
      · exact hjf)
    rw [State.session_withControl]
    split
    · next hj =>
      subst hj
      rw [hfetch, htag]
      exact hold.imp id (State.granted_withControl hr)
    · exact hold.imp id (State.granted_withControl hr)
  · have hold := h.notice j
    simp only [State.session_withControl, State.notices_withControl]
    split
    · next hj =>
      subst hj
      have ho : n'.order = (t.notices j).order := by rw [hn]
      have hc : n'.cancel = (t.notices j).cancel := by rw [hn]
      rw [hfetch, ho, hc, hno, hnc]
      refine hold.imp_left fun ⟨hf', hn'⟩ => ⟨hf', ?_⟩
      rw [hn, hn', ← hno, ← hnc]
    · exact hold

/-- What PLAY writes of one session, before the arbiter acts (R72, R73). -/
def State.playControl (s : State) (i : SessionId) : State :=
  s.withControl i ((s.session i).afterPlay s.partTime)
    (if (s.session i).stallsOnPlay then (s.notices i).withStall s.partTime else s.notices i)

/-- What PAUSE writes of one session, before the arbiter acts (R73). -/
def State.pauseControl (s : State) (i : SessionId) : State :=
  s.withControl i ((s.session i).afterPause s.partTime) (s.notices i)

/-- A PLAY that stalls at once writes the stall and STALL (R72). -/
theorem State.playControl_stalls {s : State} {i : SessionId} (h : (s.session i).stallsOnPlay = true) :
    s.playControl i = s.withControl i ((s.session i).stalledAtZero s.partTime) ((s.notices i).withStall s.partTime) := by
  obtain ⟨hst, _⟩ := (s.session i).stallsOnPlay_iff.mp h
  have hafter : (s.session i).afterPlay s.partTime = (s.session i).stalledAtZero s.partTime := by
    unfold Session.afterPlay
    rcases hst with hst | hst <;> simp only [hst, h, if_true]
  rw [State.playControl, hafter, if_pos h]

/-- Any other PLAY writes the record alone (R73). -/
theorem State.playControl_keeps {s : State} {i : SessionId} (h : (s.session i).stallsOnPlay = false) :
    s.playControl i = s.setSession i ((s.session i).afterPlay s.partTime) := by
  rw [State.playControl, if_neg (by simp [h]), State.withControl_keep]

theorem State.playedAlone_eq (s : State) (i : SessionId) :
    s.playedAlone i = if (s.session i).state = .primed ∨ (s.session i).state = .paused then
      (s.playControl i).reexamine i (s.toldUrgent i) false else s.playControl i := by
  unfold State.playedAlone
  dsimp only
  cases hstalls : (s.session i).stallsOnPlay with
  | true =>
    obtain ⟨hst, _⟩ := (s.session i).stallsOnPlay_iff.mp hstalls
    rw [if_pos rfl, if_pos hst, State.playControl_stalls hstalls]
    rfl
  | false =>
    rw [if_neg Bool.false_ne_true, State.playControl_keeps hstalls]
    rfl

theorem State.pausedAlone_eq (s : State) (i : SessionId) :
    s.pausedAlone i = if (s.session i).state = .playing ∨ (s.session i).state = .stalled then
      (s.pauseControl i).reexamine i (s.toldUrgent i) false else s.pauseControl i := by
  unfold State.pausedAlone State.pauseControl
  rw [State.withControl_keep]
  rfl

/-- A PLAY that follows acts of the arbiter writes what it would have written before them, and then the arbiter acts. -/
theorem ArbiterOnly.playedAlone {s t : State} (h : ArbiterOnly s t) (i : SessionId) :
    ArbiterOnly (s.playControl i) (t.playedAlone i) := by
  have hstalls : (t.session i).stallsOnPlay = (s.session i).stallsOnPlay := by rw [h.session_eq i]; rfl
  have hafter : (t.session i).afterPlay t.partTime =
      ((s.session i).afterPlay s.partTime).withArbiterPart (t.session i) := by
    rw [h.partTime, ← Session.afterPlay_withArbiterPart, ← h.session_eq i]
  have hcontrol : ArbiterOnly (s.playControl i) (t.playControl i) := by
    unfold State.playControl
    rw [hafter, hstalls, h.partTime]
    have hn := h.notices i
    split
    · exact h.withControl i ((s.session i).afterPlay_control _) (by rw [hn]; rfl) ⟨rfl, rfl⟩
    · exact h.withControl i ((s.session i).afterPlay_control _) hn ⟨rfl, rfl⟩
  rw [t.playedAlone_eq]
  exact .ite (hcontrol.trans (State.reexamine_only _ _ _ _)) hcontrol

theorem ArbiterOnly.pausedAlone {s t : State} (h : ArbiterOnly s t) (i : SessionId) :
    ArbiterOnly (s.pauseControl i) (t.pausedAlone i) := by
  have hafter : (t.session i).afterPause t.partTime =
      ((s.session i).afterPause s.partTime).withArbiterPart (t.session i) := by
    rw [h.partTime, ← Session.afterPause_withArbiterPart, ← h.session_eq i]
  have hcontrol : ArbiterOnly (s.pauseControl i) (t.pauseControl i) := by
    unfold State.pauseControl
    rw [hafter]
    exact h.withControl i ((s.session i).afterPause_control _) (h.notices i) ⟨rfl, rfl⟩
  rw [t.pausedAlone_eq]
  exact .ite (hcontrol.trans (State.reexamine_only _ _ _ _)) hcontrol

/-! ### The owner's PLAY and PAUSE are the ones addressed alone (R72, R73) -/

theorem State.updSession_updSession (s : State) (i : SessionId) (f g : Session → Session) :
    (s.updSession i f).updSession i g = s.updSession i fun r => g (f r) := by
  simp only [State.updSession, State.session_setSession_same, State.setSession_setSession]

/-- Running dry with the expiries rearmed (R65, R66, R72). -/
theorem State.rearm_runDry (s : State) (i : SessionId) :
    (s.runDry i).rearm i = if (s.session i).allFetched then s.updSession i fun r => { r with state := .ended }.rearm
      else (s.updSession i fun r => ({ r.countStall with state := .stalled } : Session).rearm).raiseStall i := by
  unfold State.runDry State.rearm
  split
  · exact s.updSession_updSession i _ _
  · have hcommute : ∀ (u : State) (g : Session → Session), (u.raiseStall i).updSession i g = (u.updSession i g).raiseStall i :=
      fun _ _ => rfl
    rw [hcommute, s.updSession_updSession]

/-- STALL raised with a session's record written (R14). -/
theorem State.raiseStall_setSession (s : State) (i : SessionId) (r : Session) :
    (s.setSession i r).raiseStall i = s.withControl i r ((s.notices i).withStall s.partTime) := by
  have hstall : (s.notices i).withStall s.partTime =
      { s.notices i with stall := (s.notices i).stall.orElse fun _ => some s.partTime } := by
    unfold NoticeSet.withStall
    cases (s.notices i).stall <;> rfl
  rw [hstall]
  rfl

section StartPlaying

variable {s : State} {i : SessionId} (h : (s.session i).state = .primed ∨ (s.session i).state = .paused)
include h

theorem State.level_primed_paused : s.level i = (s.session i).storedLevel :=
  (s.session i).level_of_not_playing _ (by rcases h with h | h <;> simp [h])

theorem State.playControl_moves (hstalls : (s.session i).stallsOnPlay = false) : s.playControl i =
    s.setSession i ((s.session i).movedTo s.partTime (if (s.session i).storedLevel = 0 then .ended else .playing)) := by
  rw [State.playControl_keeps hstalls]
  unfold Session.afterPlay
  rcases h with h | h <;> simp only [h, hstalls, Bool.false_eq_true, if_false]

/-- PLAY at level 0 ends or stalls the session at once (R72). -/
theorem State.playControl_zero (hzero : s.level i = 0) :
    ((s.updSession i fun r => r.writeLevel s.partTime 0).runDry i).rearm i = s.playControl i := by
  have hstored : (s.session i).storedLevel = 0 := (State.level_primed_paused h).symm.trans hzero
  rw [State.rearm_runDry, State.session_updSession_same, State.updSession_updSession, State.updSession_updSession,
    show ((s.session i).writeLevel s.partTime 0).allFetched = (s.session i).allFetched from rfl]
  cases hall : (s.session i).allFetched with
  | true =>
    have hend : (s.session i).movedTo s.partTime .ended =
        ({ (s.session i).writeLevel s.partTime 0 with state := .ended } : Session).rearm := by
      rw [Session.movedTo, show (s.session i).level s.partTime = 0 from hzero]; rfl
    rw [State.playControl_moves h (by simp [Session.stallsOnPlay, hall]), if_pos hstored, hend, if_pos rfl]
    rfl
  | false =>
    have hstall : (s.session i).stalledAtZero s.partTime =
        ({ ((s.session i).writeLevel s.partTime 0).countStall with state := .stalled } : Session).rearm := by
      rw [Session.stalledAtZero, Nat.min_comm]; rfl
    rw [State.playControl_stalls ((s.session i).stallsOnPlay_iff.mpr ⟨h, hstored, hall⟩), hstall,
      if_neg Bool.false_ne_true, ← State.raiseStall_setSession]
    rfl

/-- PLAY at a level above 0 begins PLAYING (R73). -/
theorem State.playControl_above (hlevel : ¬ s.level i = 0) :
    (s.updSession i fun r => r.enter s.partTime .playing).rearm i = s.playControl i := by
  have hstored : ¬ (s.session i).storedLevel = 0 := fun e => hlevel ((State.level_primed_paused h).trans e)
  have hplay : (s.session i).movedTo s.partTime .playing = ((s.session i).enter s.partTime .playing).rearm := by
    rw [Session.enter, if_pos (.inr rfl)]; rfl
  rw [State.playControl_moves h (by simp [Session.stallsOnPlay, hstored]), if_neg hstored, hplay, State.rearm,
    State.updSession_updSession]
  rfl

/-- PLAYING begun from PRIMED or PAUSED is the PLAY of the session alone (R72, R73). -/
theorem State.startPlaying_eq : s.startPlaying i = s.playedAlone i := by
  rw [s.playedAlone_eq, if_pos h]
  unfold State.startPlaying State.settle
  split
  · next hzero => rw [State.playControl_zero h hzero]
  · next hlevel => rw [State.playControl_above h hlevel]

end StartPlaying

/-- A PLAY that moves no session out of PRIMED or PAUSED writes the record alone (R73). -/
theorem State.playedAlone_unmoved {s : State} {i : SessionId}
    (h : ¬ ((s.session i).state = .primed ∨ (s.session i).state = .paused)) :
    s.playedAlone i = s.setSession i ((s.session i).afterPlay s.partTime) := by
  have hstalls : (s.session i).stallsOnPlay = false :=
    Bool.eq_false_iff.mpr fun hs => h ((s.session i).stallsOnPlay_iff.mp hs).1
  rw [s.playedAlone_eq, if_neg h, State.playControl_keeps hstalls]

/-- A PAUSE that moves no session out of PLAYING or STALLED writes the record alone (R73). -/
theorem State.pausedAlone_unmoved {s : State} {i : SessionId}
    (h : ¬ ((s.session i).state = .playing ∨ (s.session i).state = .stalled)) :
    s.pausedAlone i = s.setSession i ((s.session i).afterPause s.partTime) := by
  rw [s.pausedAlone_eq, if_neg h, State.pauseControl, State.withControl_keep]

theorem State.stopPlaying_eq {s : State} {i : SessionId} (h : (s.session i).state = .playing ∨ (s.session i).state = .stalled) :
    s.stopPlaying i = s.pausedAlone i := by
  have hafter : (s.session i).afterPause s.partTime = (s.session i).movedTo s.partTime .paused := by
    unfold Session.afterPause
    rcases h with h | h <;> simp only [h]
  rw [s.pausedAlone_eq, if_pos h, State.pauseControl, State.withControl_keep, hafter, State.stopPlaying, State.settle,
    State.rearm, State.updSession_updSession]
  rfl

theorem Session.takesControl_eq_false {r : Session} :
    r.takesControl = false ↔ r.state = .closed ∨ r.state = .ended ∨ r.state = .fault := by
  cases h : r.state <;> simp [Session.takesControl, h]

/-- A session that takes no control is left as it is (R73). -/
theorem State.playedAlone_refused {s : State} {i : SessionId} (h : (s.session i).takesControl = false) :
    s.playedAlone i = s := by
  rcases Session.takesControl_eq_false.mp h with e | e | e <;>
    rw [State.playedAlone_unmoved (by simp [e])] <;> simp [Session.afterPlay, e]

theorem State.pausedAlone_refused {s : State} {i : SessionId} (h : (s.session i).takesControl = false) :
    s.pausedAlone i = s := by
  rcases Session.takesControl_eq_false.mp h with e | e | e <;>
    rw [State.pausedAlone_unmoved (by simp [e])] <;> simp [Session.afterPause, e]

/-- PLAY as its owner takes it: the PLAY of the session alone, or refused (R73). -/
theorem State.playOne_eq (s : State) (i : SessionId) :
    s.playOne i = if (s.session i).takesControl then some (s.playedAlone i) else none := by
  unfold State.playOne
  cases h : (s.session i).state
  case primed | paused =>
    rw [if_pos (by simp [Session.takesControl, h]), ← State.startPlaying_eq (by simp [h])]
  case priming | playing | stalled =>
    rw [if_pos (by simp [Session.takesControl, h]), State.playedAlone_unmoved (by simp [h])]
    simp [Session.afterPlay, h, State.updSession]
  case closed | ended | fault => rw [if_neg (by simp [Session.takesControl, h])]

theorem State.pauseOne_eq (s : State) (i : SessionId) :
    s.pauseOne i = if (s.session i).takesControl then some (s.pausedAlone i) else none := by
  unfold State.pauseOne
  cases h : (s.session i).state
  case playing | stalled =>
    rw [if_pos (by simp [Session.takesControl, h]), ← State.stopPlaying_eq (by simp [h])]
  case priming | primed | paused =>
    rw [if_pos (by simp [Session.takesControl, h]), State.pausedAlone_unmoved (by simp [h])]
    simp [Session.afterPause, h, State.updSession]
  case closed | ended | fault => rw [if_neg (by simp [Session.takesControl, h])]

/-! ### The broadcast (R21, R75) -/

section Broadcast

variable {one : State → SessionId → Option State} {alone control : State → SessionId → State}
  (hone : ∀ s i, one s i = if (s.session i).takesControl then some (alone s i) else none)
  (hrefused : ∀ {s i}, (s.session i).takesControl = false → alone s i = s)
  (hcontrol : ∀ {s t} (_ : ArbiterOnly s t) i, ArbiterOnly (control s i) (alone t i))
  (hother : ∀ s {i j}, j ≠ i → (control s i).session j = s.session j)

include hcontrol in
/-- One turn after another is the requests' own writing, and beside that acts of the arbiter alone. -/
theorem ArbiterOnly.foldl_alone (l : List SessionId) {s t : State} (h : ArbiterOnly s t) :
    ArbiterOnly (l.foldl control s) (l.foldl alone t) := by
  induction l generalizing s t with
  | nil => exact h
  | cons i l ih => exact ih (hcontrol h i)

include hcontrol hother in
/-- A turn leaves the other sessions taking or refusing what they took or refused. -/
theorem takesControl_alone (s : State) {i j : SessionId} (hj : j ≠ i) :
    ((alone s i).session j).takesControl = (s.session j).takesControl := by
  have h := (hcontrol (.refl s) i).state j
  rw [hother s hj] at h
  simp only [Session.takesControl, h]

include hone hrefused in
/-- One session's turn: the request as addressed to it alone, and its bit in the mask (R21). -/
theorem broadcastTurn_eq (s : State) (m : Byte) (i : SessionId) :
    broadcastTurn one (s, m) i = (alone s i, if (s.session i).takesControl then m ||| maskBit i else m) := by
  unfold broadcastTurn
  rw [hone]
  cases h : (s.session i).takesControl with
  | true => rfl
  | false => rw [hrefused h]; rfl

include hone hrefused hcontrol hother in
/-- A broadcast is the request addressed to the sessions alone, one after another, and answers the mask (R21, R75). -/
theorem State.broadcast_eq (s : State) :
    s.broadcast one = (Idx4.all.foldl alone s, ⟨.ok, [s.controlMask]⟩) := by
  have hturn := broadcastTurn_eq hone hrefused
  have hkeep := @takesControl_alone alone control hcontrol hother
  have h1 : (Session.takesControl ((alone s .i0).session .i1)) = (s.session .i1).takesControl := hkeep _ (by decide)
  have h2 : (Session.takesControl ((alone (alone s .i0) .i1).session .i2)) = (s.session .i2).takesControl := by
    rw [hkeep _ (by decide), hkeep _ (by decide)]
  have h3 : (Session.takesControl ((alone (alone (alone s .i0) .i1) .i2).session .i3)) = (s.session .i3).takesControl := by
    rw [hkeep _ (by decide), hkeep _ (by decide), hkeep _ (by decide)]
  simp only [State.broadcast, Idx4.all, List.foldl_cons, List.foldl_nil, hturn, h1, h2, h3, State.controlMask]
  cases (s.session .i0).takesControl <;> cases (s.session .i1).takesControl <;> cases (s.session .i2).takesControl <;>
    cases (s.session .i3).takesControl <;> rfl

end Broadcast

theorem State.playControl_other (s : State) {i j : SessionId} (h : j ≠ i) : (s.playControl i).session j = s.session j := by
  rw [State.playControl, State.session_withControl, if_neg h]

theorem State.pauseControl_other (s : State) {i j : SessionId} (h : j ≠ i) : (s.pauseControl i).session j = s.session j := by
  rw [State.pauseControl, State.session_withControl, if_neg h]

/-- Writing every session in turn, each from what the state holds of it, writes each from what the state held at first. -/
theorem State.foldl_withControl (s : State) (f : Session → PartTime → Session)
    (n : Session → NoticeSet → PartTime → NoticeSet) :
    Idx4.all.foldl (fun t i => t.withControl i (f (t.session i) t.partTime) (n (t.session i) (t.notices i) t.partTime)) s =
      { s with
        sessions := Four.ofFn fun i => f (s.session i) s.partTime
        link := { s.link with notices := Four.ofFn fun i => n (s.session i) (s.notices i) s.partTime } } := rfl

theorem State.foldl_playControl (s : State) : Idx4.all.foldl State.playControl s = { s with
    sessions := Four.ofFn fun i => (s.session i).afterPlay s.partTime
    link := { s.link with notices := Four.ofFn fun i =>
      if (s.session i).stallsOnPlay then (s.notices i).withStall s.partTime else s.notices i } } :=
  s.foldl_withControl Session.afterPlay fun r n now => if r.stallsOnPlay then n.withStall now else n

theorem State.foldl_pauseControl (s : State) : Idx4.all.foldl State.pauseControl s = { s with
    sessions := Four.ofFn fun i => (s.session i).afterPause s.partTime } :=
  s.foldl_withControl Session.afterPause fun _ n _ => n

theorem State.serve_playAll (s : State) : s.serve .play 0x0F#8 [] = s.broadcast State.playOne := rfl

theorem State.serve_pauseAll (s : State) : s.serve .pause 0x0F#8 [] = s.broadcast State.pauseOne := rfl

/-- A broadcast at a part that is ready: what the turns leave, and the reply with the mask (R21). -/
theorem exec_broadcast {s core : State} (hs : s.linkReady) {cmd : Instr} {k : ReqKind}
    (hreq : requestOf cmd = some (k, clean 0x0F#8, [])) (hlen : k.requiredLength [] = some 0)
    (hserve : s.serve k 0x0F#8 [] = (core, ⟨.ok, [s.controlMask]⟩)) :
    exec cmd s = .next (afterReply core (replyTo k 0x0F#8 .ok [s.controlMask])) := by
  obtain ⟨⟨_, _, hf, hg, _⟩, _⟩ := id hs
  have hn := s.serve_noticesOnly k 0x0F#8 []
  rw [hserve] at hn
  rw [exec_request hreq, State.receiveRequest_served hs k 0x0F#8 [] (by decide) hlen hserve (hn.framer.trans hf)
    (hn.gap.trans hg)]

/-- Settles O29: each session's turn is its own PLAY or PAUSE, which commutes with the acts of the arbiter before it. -/
theorem broadcastReachesEverySession : Obligations.BroadcastReachesEverySession := by
  intro s hs
  have hplay := ArbiterOnly.foldl_alone ArbiterOnly.playedAlone Idx4.all (.refl s)
  have hpause := ArbiterOnly.foldl_alone ArbiterOnly.pausedAlone Idx4.all (.refl s)
  rw [s.foldl_playControl] at hplay
  rw [s.foldl_pauseControl] at hpause
  have hplayed := (s.serve_playAll).trans
    (s.broadcast_eq State.playOne_eq State.playedAlone_refused ArbiterOnly.playedAlone State.playControl_other)
  have hpaused := (s.serve_pauseAll).trans
    (s.broadcast_eq State.pauseOne_eq State.pausedAlone_refused ArbiterOnly.pausedAlone State.pauseControl_other)
  exact ⟨⟨_, hplay, rfl, exec_broadcast hs rfl rfl hplayed⟩, ⟨_, hpause, rfl, exec_broadcast hs rfl rfl hpaused⟩⟩

end Sys2Proof.Machine

/-! The advance of part time and the contention code (O7, O8; R19, R25, R28, R29, R31, R33, R135, R137, R138). -/

namespace Sys2Proof.Machine

open Sys2Proof

/-! ### What granting leaves (R133 to R135) -/

/-- No entry is selected only from an empty queue (R134). -/
theorem State.selectEntry_eq_none {s : State} (h : s.selectEntry = none) : s.arbiter.queue = [] := by
  unfold State.selectEntry at h
  split at h
  · cases h
  · simpa using h

/-- No grant is made only where one of the conditions of R133 fails. -/
theorem State.nothingToGrant_of_grantOnce {s : State} (h : s.grantOnce = none) : NothingToGrant s := by
  unfold State.grantOnce at h
  split at h
  next =>
    cases hslot : s.freeSlot with
    | none => exact .inl hslot
    | some k =>
      cases hentry : s.selectEntry with
      | none => exact .inr (.inl (State.selectEntry_eq_none hentry))
      | some i => simp [hslot, hentry] at h
  next hnot =>
    have hcause : s.arbiter.hold = true ∨ s.contention.accepted = 7#3 := by
      simpa [State.grantsAllowed, or_iff_not_imp_left] using hnot
    exact .inr (.inr hcause)

/-- Without a free slot none is found (R128). -/
theorem State.freeSlot_eq_none {s : State} (h : s.freeCount = 0) : s.freeSlot = none :=
  List.find?_eq_none.mpr (List.countP_eq_zero.mp h)

/-- As many grants as there are free slots leave nothing to grant (R135). -/
theorem State.grantUpTo_nothingToGrant (n : Nat) (s : State) (h : s.freeCount ≤ n) : NothingToGrant (s.grantUpTo n) := by
  induction n generalizing s with
  | zero => exact .inl (State.freeSlot_eq_none (Nat.le_zero.mp h))
  | succ n ih =>
    rw [State.grantUpTo]
    split
    next t hg =>
      have hfree := State.grantOnce_freeCount hg
      exact ih t (by omega)
    next hg => exact State.nothingToGrant_of_grantOnce hg

theorem State.grantAll_nothingToGrant (s : State) : NothingToGrant s.grantAll :=
  State.grantUpTo_nothingToGrant _ s s.freeCount_le

/-- A consideration that preempts ends in grants, and any other changes nothing (R140). -/
theorem NothingToGrant.considerPreemption {s : State} (h : NothingToGrant s) (i : SessionId) :
    NothingToGrant (s.considerPreemption i) := by
  unfold State.considerPreemption
  split
  · exact State.grantAll_nothingToGrant _
  · exact h

theorem NothingToGrant.considerAll {s : State} (h : NothingToGrant s) : NothingToGrant s.considerAll :=
  List.foldlRecOn s.urgentOrder State.considerPreemption h fun _ ht i _ => NothingToGrant.considerPreemption ht i

/-! ### An advance with nothing left behind (R25, R27) -/

/-- The choice of an idle transmitter makes nothing fall. -/
theorem State.nothingFalls.leaveIdle {s : State} (h : s.nothingFalls) : s.leaveIdle.nothingFalls := by
  have ho := s.leaveIdle_only
  simpa only [State.nothingFalls, ho.gap, ho.rdyExpiry, ho.meter, ho.contention, ho.partTime, ho.stallExpiry, ho.lowExpiry,
    ho.refillExpiry, ho.fetch] using h

/-- With nothing due, an advance takes nothing before it (R27). -/
theorem State.nothingDue.takeAllDue {s : State} (h : s.nothingDue) : s.takeAllDue = s := by
  obtain ⟨⟨hgap, hrdy, hwindow, hheld, hsessions⟩, hserved⟩ := h
  have hnot : ∀ {expiry : Option PartTime}, expiry ≠ some s.partTime → isDue expiry s.partTime = false := fun h =>
    Bool.eq_false_iff.mpr (mt (isDue_iff _ _).mp h)
  have hbefore : s.fallGap.fallRdy.settleSample.fallWindow = s := by
    rw [show s.fallGap = s from if_neg (by simp [hnot hgap]), show s.fallRdy = s from if_neg (by simp [hnot hrdy]),
      State.settleSample_none hheld, State.fallWindow_afterChoice.idles s (hnot hwindow)]
  have hsession : ∀ i, (((s.fallActivity i).fallStall i).fallRefill i).fallLow i = s := fun i => by
    obtain ⟨hstall, hlow, hrefill, hactivity⟩ := hsessions i
    rw [State.fallActivity_idle hactivity, (State.fallStall_afterChoice i).idles s (hnot hstall),
      (State.fallRefill_afterChoice i).idles s (hnot hrefill), (State.fallLow_afterChoice i).idles s (hnot hlow)]
  rw [State.takeAllDue, hbefore, List.foldl_fixed' hsession, s.leaveIdle_served hserved]

/-- With nothing due, an advance is the step of part time alone (R25). -/
theorem State.nothingDue.advance {s : State} (h : s.nothingDue) : s.advance = s.tick := by
  rw [State.advance, h.takeAllDue]

theorem exec_partTimeAdvance {s : State} (hn : s.nrstHigh = true) (how : Advance) :
    exec (.partTimeAdvance how) s = .next (s.advanceAs how) := congrArg Host.Outcome.next (if_pos hn)

/-- With nothing due, the sample read at the advance is dealt with at the new part time (R28, R29). -/
theorem exec_advance_atOnce {s : State} (hn : s.nrstHigh = true) (h : s.nothingDue) (cc : CcLines) :
    exec (.partTimeAdvance (.atOnce cc)) s = .next (s.tick.dealWithSample (lineCode cc)) := by
  rw [exec_partTimeAdvance hn, State.advanceAs, h.advance]

/-! ### Dealing with a sample (R29, R31) -/

/-- The code of a sample is the number that the lines spell, CC2 first (R28). -/
theorem lineCode_toNat (cc : CcLines) : (lineCode cc).toNat = 4 * cc.cc2.toNat + 2 * cc.cc1.toNat + cc.cc0.toNat := by
  have h2 := cc.cc2.toNat_le
  have h1 := cc.cc1.toNat_le
  have h0 := cc.cc0.toNat_le
  rw [lineCode, BitVec.toNat_ofNat]
  omega

/-- A sample that differs from the last one becomes the last one (R29). -/
theorem State.dealWithSample_differs {s : State} {code : Code} (hs : s.transmitterServed)
    (hlast : s.contention.lastSample ≠ some code) :
    s.dealWithSample code = s.setContention { s.contention with lastSample := some code } := by
  simp only [State.dealWithSample, s.leaveIdle_served hs, hlast, false_and, if_false]

/-- Noting a sample equal to the last one changes nothing. -/
theorem State.setContention_lastSample {s : State} {code : Code} (hlast : s.contention.lastSample = some code) :
    s.setContention { s.contention with lastSample := some code } = s := by
  rw [← hlast]
  rfl

/-- A second equal sample of the code in force changes nothing (R29). -/
theorem State.dealWithSample_inForce {s : State} {code : Code} (hs : s.transmitterServed)
    (hlast : s.contention.lastSample = some code) (hcode : s.contention.accepted = code) : s.dealWithSample code = s := by
  simp only [State.dealWithSample, s.leaveIdle_served hs, State.setContention_lastSample hlast]
  exact if_neg fun h => h.2 hcode

/-- A second equal sample of another code is accepted (R29). -/
theorem State.dealWithSample_accepts {s : State} {code : Code} (hs : s.transmitterServed)
    (hlast : s.contention.lastSample = some code) (hcode : s.contention.accepted ≠ code) :
    s.dealWithSample code = s.acceptCode code := by
  simp only [State.dealWithSample, s.leaveIdle_served hs, State.setContention_lastSample hlast]
  exact if_pos ⟨hlast, hcode⟩

/-- A sample held where none was is dealt with, when it is settled, as it would have been (R33, log 6). -/
theorem State.settleSample_hold (s : State) (h : s.contention.held = none) (code : Code) :
    (s.setContention { s.contention with held := some code }).settleSample = s.dealWithSample code := by
  have hback : s.setContention { s.contention with held := none } = s := by
    rw [← h]
    rfl
  show (s.setContention { s.contention with held := none }).dealWithSample code = _
  rw [hback]

/-- The accepted code in force with LINK raised, before the arbiter acts (R31). -/
def State.withCode (s : State) (code : Code) : State :=
  { s with contention := { s.contention with accepted := code }, link := { s.link with linkNotice := true } }

/-- The end of code 7 is an occasion of granting, then of considering preemption (R31, R137, R138). -/
theorem State.acceptCode_from_seven (s : State) (code : Code) (h : s.contention.accepted = 7#3) :
    s.acceptCode code = (s.withCode code).grantAll.considerAll := if_pos h

theorem State.acceptCode_from_other (s : State) (code : Code) (h : s.contention.accepted ≠ 7#3) :
    s.acceptCode code = s.withCode code := if_neg h

/-- Beside the code and LINK, an acceptance is an act of the arbiter alone (R31). -/
theorem State.acceptCode_only (s : State) (code : Code) : ArbiterOnly (s.withCode code) (s.acceptCode code) :=
  .ite ((State.grantAll_only _).trans (State.considerAll_only _)) (.refl _)

/-! ### The obligations -/

/-- Settles O7: with nothing due the advance is `State.tick`, and the sample is dealt with as the three cases of R29 say; what
comes before is the choice that `exec_leaveIdle` makes. -/
theorem advanceDealsWithSample : Obligations.AdvanceDealsWithSample := by
  constructor
  · intro cc s hn hfalls hidle
    refine ⟨s.leaveIdle, ?_, ⟨hfalls.leaveIdle, s.leaveIdle_transmitterServed⟩, exec_leaveIdle hn trivial⟩
    rw [exec_frameSent hn, s.endFrame_idle hidle, s.leaveIdle_idle hidle]
  · intro cc s hn hdue code u
    have hexec : exec (.partTimeAdvance (.atOnce cc)) s = .next (u.dealWithSample code) := exec_advance_atOnce hn hdue cc
    have hserved : u.transmitterServed := hdue.2
    rw [hexec]
    refine ⟨lineCode_toNat cc, fun hlast => ?_, fun hlast hcode => ?_, fun hlast hcode => ?_⟩
    · exact congrArg _ (State.dealWithSample_differs hserved hlast)
    · exact congrArg _ (State.dealWithSample_inForce hserved hlast hcode)
    · refine ⟨u.acceptCode code, u.acceptCode_only code, u.acceptCode_from_other code, fun hseven => ?_,
        congrArg _ (State.dealWithSample_accepts hserved hlast hcode)⟩
      rw [u.acceptCode_from_seven code hseven]
      exact ⟨rfl, (State.grantAll_nothingToGrant _).considerAll⟩

/-- Settles O8: the held sample is dealt with in the state that `State.tick` leaves, as one dealt with at once is. -/
theorem heldSampleSettlesAlike : Obligations.HeldSampleSettlesAlike := by
  intro cc s hn hdue
  obtain ⟨⟨_, _, _, hheld, _⟩, _⟩ := id hdue
  refine ⟨_, rfl, ?_, ?_⟩
  · rw [exec_partTimeAdvance hn, State.advanceAs, hdue.advance]
    rfl
  · rw [exec_advance_atOnce hn hdue, ← s.tick.settleSample_hold hheld]
    exact exec_partTimeAdvance (s := s.tick.setContention _) hn .settle

end Sys2Proof.Machine

/-! SUPPORT and O22, O31, O34. A request addressed to one session: its way to the owner, and the requests that write no more
than the addressed record (R9, R38, R51 to R54). -/

namespace Sys2Proof.Machine

open Sys2Proof

/-! ### The way to the owner (R6 to R9) -/

/-- No kind requires a LEN above 240 (01 §1.2, R3). -/
theorem ReqKind.requiredLength_le {k : ReqKind} {p : List Byte} {n : Nat} (h : k.requiredLength p = some n) : n ≤ 240 := by
  cases k
  case openSession =>
    have hmax : Config.maxLength = 240 := rfl
    simp only [ReqKind.requiredLength, Option.ite_none_left_eq_some, Option.some.injEq] at h
    omega
  all_goals cases h; decide

/-- Every request command but OPEN has the length that its kind requires (R23). -/
theorem requestOf_requiredLength {cmd : Instr} {k : ReqKind} {w : Wire} {p : List Byte}
    (h : requestOf cmd = some (k, w, p)) (hk : k ≠ .openSession) : k.requiredLength p = some p.length := by
  cases cmd <;> cases h
  case openSession => exact absurd rfl hk
  case configure c => rw [configPayload_length]; rfl
  all_goals rfl

/-- A frame without a fault whose owner is served in the state as it stands: the transmitter has no choice left to make, or the
frame clears the notice whose turn it is (R9, R19, R174, R181). -/
theorem State.receiveRequest_asItStands {s : State} (hopen : s.linkOpen) {k : ReqKind} {target : Byte} {p : List Byte}
    (hlen : k.requiredLength p = some p.length)
    (hstands : s.transmitterServed ∨ s.clearsNext k.code target (BitVec.ofNat 8 p.length) p
      (frameSum k.code target (BitVec.ofNat 8 p.length) p) = true) :
    s.receiveRequest k (clean target) p = afterReply (s.serve k target p).1
      (replyTo k target (s.serve k target p).2.status (s.serve k target p).2.fields) := by
  obtain ⟨hn, hr, hf, hg, hroom⟩ := hopen
  have hp : p.length ≤ 255 := (ReqKind.requiredLength_le hlen).trans (by decide)
  have hroom' : ¬ Config.replyRoom ≤ s.link.replies.length := Nat.not_le_of_lt hroom
  have hcomplete : s.completeFrame k.code target (BitVec.ofNat 8 p.length) p
      (frameSum k.code target (BitVec.ofNat 8 p.length) p) = s.answerRequest k target p := by
    rw [← State.checkFrame_clean s k target p hp hlen]
    obtain hserved | hclears := hstands
    · rw [s.completeFrame_served hserved, if_neg hroom']
    · rw [s.completeFrame_clears _ _ _ _ _ hclears, if_neg hroom']
  have honly := s.serve_noticesOnly k target p
  rw [State.receiveRequest, State.receiveAll_frame s _ _ _ _ (by simp [State.receives, hn, hr]) hf hg hp]
  simp only [clean, BitVec.add_zero, hcomplete, State.answerRequest]
  exact State.transmitReply_queueReply _ _ (honly.framer.trans hf) (honly.gap.trans hg)

theorem State.serve_session {s : State} {k : ReqKind} {i : SessionId} {p : List Byte} {r : State × Answer}
    (h : s.serveSession k i p = some r) : s.serve k (sessionByte i) p = r := by
  simp [State.serve, h]

/-- A session request at a part that is ready for it: what its owner leaves, and the owner's answer (R9, R19). -/
theorem exec_sessionRequest {s core : State} {cmd : Instr} {k : ReqKind} {i : SessionId} {p : List Byte} {a : Answer}
    (hs : s.linkReady) (hreq : requestOf cmd = some (k, clean (sessionByte i), p))
    (hlen : k.requiredLength p = some p.length) (hserve : s.serveSession k i p = some (core, a)) :
    exec cmd s = .next (afterReply core (replyTo k (sessionByte i) a.status a.fields)) := by
  rw [exec_request hreq, State.receiveRequest_asItStands hs.1 hlen (.inl hs.2), State.serve_session hserve]

theorem Session.isOpen_iff (r : Session) : r.isOpen = true ↔ r.state ≠ .closed := by simp [Session.isOpen]

theorem State.ifOpen_open {s : State} {i : SessionId} (h : (s.session i).state ≠ .closed) (a : State × Answer) :
    s.ifOpen i a = a := if_pos ((Session.isOpen_iff _).mpr h)

theorem State.ifOpen_closed {s : State} {i : SessionId} (h : (s.session i).state = .closed) (a : State × Answer) :
    s.ifOpen i a = (s, .refuse .notOpen) := if_neg fun ho => (Session.isOpen_iff _).mp ho h

/-! ### A closed session (R38) -/

/-- Of the kinds that take a session as target, only OPEN and QUERY_SESSION are not refused for a closed one (R8, R38). -/
theorem State.serveSession_closed {s : State} {k : ReqKind} {i : SessionId} (p : List Byte)
    (hclosed : (s.session i).state = .closed) (ht : k.validTarget (sessionByte i) = true) (ho : k ≠ .openSession)
    (hq : k ≠ .querySession) : s.serveSession k i p = some (s, .refuse .notOpen) := by
  cases k
  case openSession => exact absurd rfl ho
  case querySession => exact absurd rfl hq
  case hello | configure | reset | grantHold | queryLink | history => cases i <;> cases ht
  all_goals exact congrArg some (State.ifOpen_closed hclosed _)

/-- Settles O22. -/
theorem closedSessionAnswersNotOpen : Obligations.ClosedSessionAnswersNotOpen := by
  intro cmd k p i s hreq hs hclosed ht ho hq
  exact exec_sessionRequest hs hreq (requestOf_requiredLength hreq ho) (State.serveSession_closed p hclosed ht ho hq)

/-! ### LIMITS (R51, R52) -/

theorem clamp_zero (hi v : Nat) : clamp 0 hi v = min hi v := by
  rw [clamp_eq_max_min (Nat.zero_le hi), Nat.zero_max]

/-- The clamps of R51 in their order, as the least and greatest of the bounds and the values. -/
theorem Session.limitsInForce_eq (r : Session) (cap floor weight : Nat) :
    r.limitsInForce cap floor weight = (min (r.ladder.length - 1) cap, min (min (r.ladder.length - 1) cap) floor,
      max 1 (min 15 weight)) := by
  rw [Session.limitsInForce, clamp_zero, clamp_zero, clamp_eq_max_min (by decide)]

/-- LIMITS replaces the three values and answers with them (R51, R52). -/
theorem State.serveLimits_eq (s : State) (i : SessionId) {cap floor weight c f w : Nat}
    (h : (s.session i).limitsInForce cap floor weight = (c, f, w)) :
    s.serveLimits i cap floor weight = (s.withSession i { s.session i with cap := c, floor := f, weight := w },
      ⟨if c = cap ∧ f = floor ∧ w = weight then .ok else .clamped, put8 c ++ put8 f ++ put8 w⟩) := by
  have hstatus : Status1.ofSame ((c, f, w) == (cap, floor, weight)) =
      if c = cap ∧ f = floor ∧ w = weight then .ok else .clamped := by simp [Status1.ofSame]
  rw [State.serveLimits, h, ← hstatus]
  rfl

/-- Settles O31. -/
theorem limitsClamped : Obligations.LimitsClamped := by
  intro i cap floor weight s hs hopen r c f w
  have hserve := s.serveLimits_eq i (Session.limitsInForce_eq r cap.toNat floor.toNat weight.toNat)
  exact exec_sessionRequest (k := .limits) (p := [cap, floor, weight]) hs rfl rfl
    (congrArg some ((State.ifOpen_open hopen _).trans hserve))

/-! ### QUERY_SESSION (R53, R54) -/

/-- Settles O34: the state is the one before, and `Session.queryFields` has the layout field by field. -/
theorem querySessionReports : Obligations.QuerySessionReports := by
  intro i s hs r flag
  rw [exec_sessionRequest hs rfl rfl rfl]
  rfl

end Sys2Proof.Machine

/-! OPEN (O23, O24): which descriptions are taken, and the record written (R23, R39, R42 to
R46, R130). -/

namespace Sys2Proof.Machine

open Sys2Proof

/-! ### Which descriptions are taken (R39, R43) -/

theorem ascending_iff_isChain (l : List Nat) : ascending l = true ↔ l.IsChain (· < ·) := by
  induction l using ascending.induct with
  | case1 => simp [ascending]
  | case2 a => simp [ascending]
  | case3 a b rest ih => rw [ascending, Bool.and_eq_true, decide_eq_true_eq, ih, List.isChain_cons_cons]

/-- Bitrates ascend unless one is followed by another that is not greater (R39). -/
theorem ascending_map_iff (l : List (BitVec 16)) : ascending (l.map (·.toNat)) = true ↔
    ¬ ∃ (k : Nat) (lo hi : BitVec 16), l[k]? = some lo ∧ l[k + 1]? = some hi ∧ hi.toNat ≤ lo.toNat := by
  rw [ascending_iff_isChain, List.isChain_map, List.isChain_iff_getElem]
  constructor
  · rintro hlt ⟨k, lo, hi, hlo, hhi, hle⟩
    obtain ⟨_, rfl⟩ := List.getElem?_eq_some_iff.mp hlo
    obtain ⟨hk, rfl⟩ := List.getElem?_eq_some_iff.mp hhi
    exact absurd (hlt k hk) (Nat.not_lt_of_le hle)
  · intro hnot k hk
    by_contra hge
    exact hnot ⟨k, _, _, List.getElem?_eq_getElem _, List.getElem?_eq_getElem hk, Nat.le_of_not_lt hge⟩

/-! The conditions of R43 one after another. -/

theorem rungCount_sound_iff (n : Nat) : decide (1 ≤ n ∧ n ≤ 8) = true ↔ ¬ (n = 0 ∨ 8 < n) := by
  rw [decide_eq_true_eq]; omega

theorem bitrates_sound_iff (l : List (BitVec 16)) :
    ((l.map (·.toNat)).all fun b => decide (32 ≤ b ∧ b ≤ 60000)) = true ↔ ¬ ∃ b ∈ l, b.toNat < 32 ∨ 60000 < b.toNat := by
  simp [not_or]

theorem segments_sound_iff (mode first last : Nat) :
    (if mode = 0 then decide (last ≠ 0xFFFFFFFF ∧ first ≤ last) else decide (mode = 1 ∧ last = 0xFFFFFFFF)) = true ↔
      ¬ (1 < mode ∨ (mode = 0 ∧ last = 0xFFFFFFFF) ∨ (mode = 1 ∧ last ≠ 0xFFFFFFFF) ∨ (mode = 0 ∧ last < first)) := by
  split <;> simp only [decide_eq_true_eq] <;> omega

/-- A description is taken unless it has one of the defects of R43. -/
theorem acceptable_openRequest (o : OpenFields) (hn : o.rungCount.toNat = o.bitrates.length) :
    (openRequest o).acceptable = true ↔ ¬ openDefect o := by
  have hmax : Config.maxRungs = 8 := rfl
  have habsent : Config.absentSegment = 0xFFFFFFFF := rfl
  simp only [OpenRequest.acceptable, openRequest, hn, hmax, habsent, Bool.and_eq_true, rungCount_sound_iff, bitrates_sound_iff,
    ascending_map_iff, segments_sound_iff]
  simp only [openDefect, not_or, and_assoc]

/-- The frame of an OPEN whose rung count is the number of its bitrates passes the length check up to LEN 240 (R23, log 21). -/
theorem requiredLength_openPayload (o : OpenFields) (hn : o.rungCount.toNat = o.bitrates.length)
    (hlen : 32 + 2 * o.bitrates.length ≤ 240) :
    ReqKind.requiredLength .openSession (openPayload o) = some (openPayload o).length := by
  have hrung : byteAt (openPayload o) 1 = o.bitrates.length := hn
  have hmax : Config.maxLength = 240 := rfl
  rw [openPayload_length, OpenFields.payloadLength, ReqKind.requiredLength, hrung, hmax, openPayload_length,
    OpenFields.payloadLength, if_neg (by omega)]

theorem exec_open {s core : State} {i : SessionId} {o : OpenFields} {a : Answer} (hs : s.linkReady)
    (hn : o.rungCount.toNat = o.bitrates.length) (hlen : 32 + 2 * o.bitrates.length ≤ 240)
    (hserve : s.serveOpen i (openRequest o) = (core, a)) : exec (.openSession (clean (sessionByte i)) o) s =
      .next (afterReply core (replyTo .openSession (sessionByte i) a.status a.fields)) := by
  refine exec_sessionRequest hs rfl (requiredLength_openPayload o hn hlen) ?_
  rw [← OpenRequest.ofPayload_openPayload o hn] at hserve
  exact congrArg some hserve

theorem State.serveOpen_open {s : State} {i : SessionId} (h : (s.session i).state ≠ .closed) (o : OpenRequest) :
    s.serveOpen i o = (s, .refuse .alreadyOpen) := if_pos ((Session.isOpen_iff _).mpr h)

theorem State.serveOpen_closed {s : State} {i : SessionId} (h : (s.session i).state = .closed) (o : OpenRequest) :
    s.serveOpen i o = if o.acceptable then
      ((s.setSession i (o.record s.partTime)).reexamine i false false,
        ⟨Status1.ofSame (o.inForce == o.carried), o.inForce.fields⟩)
      else (s, .refuse .badField) := if_neg fun ho => (Session.isOpen_iff _).mp ho h

/-- Settles O23. -/
theorem openRefusals : Obligations.OpenRefusals := by
  intro o i s hs hlen hn
  refine ⟨fun hopen => exec_open hs hn hlen (State.serveOpen_open hopen _), fun hclosed hdefect => ?_⟩
  have hnot : ¬ (openRequest o).acceptable = true := fun ha => (acceptable_openRequest o hn).mp ha hdefect
  exact exec_open hs hn hlen ((State.serveOpen_closed hclosed _).trans (if_neg hnot))

/-! ### The record written (R44, R45) -/

/-- The clamps of R44 in their order. -/
theorem openRequest_inForce (o : OpenFields) (hn : o.rungCount.toNat = o.bitrates.length) (now : PartTime) :
    (openRequest o).inForce =
      ⟨(openedRecord o now).segmentMs, (openedRecord o now).weight, (openedRecord o now).cap, (openedRecord o now).floor,
        (openedRecord o now).activeRung, (openedRecord o now).markL, (openedRecord o now).markT, (openedRecord o now).markH,
        (openedRecord o now).markS0⟩ := by
  have hmax : Config.maxLevel = 120000 := rfl
  simp only [OpenRequest.inForce, openRequest, openedRecord, hn, hmax, clamp_zero]
  simp (disch := omega) only [clamp_eq_max_min]

/-- The record of R45 with the values in force (R44). -/
theorem openRequest_record (o : OpenFields) (hn : o.rungCount.toNat = o.bitrates.length) (now : PartTime) :
    (openRequest o).record now = openedRecord o now := by
  have hladder : ((openRequest o).bitrates.map fun b => (⟨b, 256, false⟩ : Rung)) = (openedRecord o now).ladder :=
    List.map_map
  rw [OpenRequest.record, openRequest_inForce o hn now, hladder]
  rfl

/-- The reply to an OPEN that is taken: the values in force, CLAMPED unless all are those carried (R44). -/
theorem openReply_eq (i : SessionId) (o : OpenFields) (hn : o.rungCount.toNat = o.bitrates.length) :
    replyTo .openSession (sessionByte i) (Status1.ofSame ((openRequest o).inForce == (openRequest o).carried))
      (openRequest o).inForce.fields = openReply i o := by
  rw [openRequest_inForce o hn 0#32]
  simp only [Status1.ofSame, beq_iff_eq, OpenRequest.carried, OpenLimits.mk.injEq]
  rfl

/-- An OPEN that is taken: the record is written and the arbiter handed the session (R44 to R46). -/
theorem exec_open_taken {s : State} {i : SessionId} {o : OpenFields} (hs : s.linkReady)
    (hn : o.rungCount.toNat = o.bitrates.length) (hclosed : (s.session i).state = .closed) (hsound : ¬ openDefect o) :
    exec (.openSession (clean (sessionByte i)) o) s = .next
      (afterReply ((s.withSession i (openedRecord o s.partTime)).reexamine i false false) (openReply i o)) := by
  have hcount : o.bitrates.length ≤ 8 := Nat.le_of_not_lt fun h => hsound (.inr (.inl h))
  have htaken := (State.serveOpen_closed hclosed (openRequest o)).trans (if_pos ((acceptable_openRequest o hn).mpr hsound))
  rw [exec_open hs hn (by omega) htaken, openReply_eq i o hn, openRequest_record o hn]
  rfl

/-- Settles O24. -/
theorem openWritesRecord : Obligations.OpenWritesRecord := by
  intro o i s hs hn hclosed hsound
  exact ⟨_, State.handedOver_reexamine _ i false false, exec_open_taken hs hn hclosed hsound⟩

end Sys2Proof.Machine

/-! O25. The grant in the event of an OPEN (R46, R116, R128, R130, R133, R145). -/

namespace Sys2Proof

/-- Before an index in the list of all come the lower ones. -/
theorem Idx4.all_eq_append (k : Idx4) :
    ∃ lower rest, Idx4.all = lower ++ k :: rest ∧ ∀ j ∈ lower, j.toNat < k.toNat := by
  cases k
  · exact ⟨[], _, rfl, by decide⟩
  · exact ⟨[.i0], _, rfl, by decide⟩
  · exact ⟨[.i0, .i1], _, rfl, by decide⟩
  · exact ⟨[.i0, .i1, .i2], _, rfl, by decide⟩

end Sys2Proof

namespace Sys2Proof.Machine

open Sys2Proof

/-! ### The rung of an order (R114 to R121) -/

theorem highestRung_mem {lo hi k : Nat} {ok : Nat → Bool} (h : highestRung lo hi ok = some k) :
    lo ≤ k ∧ k ≤ hi ∧ ok k = true := by
  have hmem := List.mem_of_getLast? h
  simp only [rungSpan, List.mem_filter, List.mem_range, decide_eq_true_eq] at hmem
  obtain ⟨⟨hle, hlo⟩, hok⟩ := hmem
  exact ⟨hlo, Nat.le_of_lt_succ hle, hok⟩

/-- A highest rung of the floor to the cap, or the floor, lies between them (R114, R116). -/
theorem highestRung_getD_mem {lo hi : Nat} (h : lo ≤ hi) (ok : Nat → Bool) :
    lo ≤ (highestRung lo hi ok).getD lo ∧ (highestRung lo hi ok).getD lo ≤ hi := by
  cases hk : highestRung lo hi ok with
  | none => exact ⟨le_rfl, h⟩
  | some k =>
    obtain ⟨hlo, hhi, _⟩ := highestRung_mem hk
    exact ⟨hlo, hhi⟩

/-- The choice of the decision stays between the floor and the cap (R115 to R118). -/
theorem Session.rungChoice_mem {r : Session} (h : r.floor ≤ r.cap) (share level fit need : Nat) :
    r.floor ≤ r.rungChoice share level fit need ∧ r.rungChoice share level fit need ≤ r.cap := by
  have htp : r.floor ≤ r.sustainableRung share fit ∧ r.sustainableRung share fit ≤ r.cap := highestRung_getD_mem h _
  have hguard : r.floor ≤ r.guardRung share level ∧ r.guardRung share level ≤ r.cap := highestRung_getD_mem h _
  have hheld : r.floor ≤ r.heldRung ∧ r.heldRung ≤ r.cap := ⟨clamp_ge h, clamp_le h⟩
  unfold Session.rungChoice
  dsimp only
  split_ifs <;> omega

/-- Bytes take time (R113). -/
theorem timeWithin_transferTime_zero {bytes : Nat} (h : 0 < bytes) (share : Nat) :
    timeWithin (transferTime bytes share) 0 = false := by
  unfold transferTime
  split
  · rfl
  · next hs =>
    have hpos : 0 < (bytes * 8 + (share - 1)) / share := Nat.div_pos (by omega) (by omega)
    exact decide_eq_false (Nat.not_le_of_lt hpos)

/-- At level 0 with a low mark above it, the choice is the floor when no rung's segment is empty (R116). -/
theorem Session.rungChoice_at_zero {r : Session} (h : r.floor ≤ r.cap) (hmark : 0 < r.markL)
    (hsize : ∀ k, k ≤ r.cap → 0 < r.predictedSize k) (share fit need : Nat) :
    r.rungChoice share 0 fit need = r.floor := by
  have htp : r.floor ≤ r.sustainableRung share fit := (highestRung_getD_mem h _).1
  have hheld : r.floor ≤ r.heldRung := clamp_ge h
  have hguard : r.guardRung share 0 = r.floor := by
    unfold Session.guardRung
    cases hk : highestRung r.floor r.cap fun k => timeWithin (r.predictedTime share k) (0 / 2) with
    | none => rfl
    | some k =>
      obtain ⟨_, hle, hfits⟩ := highestRung_mem hk
      rw [Session.predictedTime, Nat.zero_div, timeWithin_transferTime_zero (hsize k hle)] at hfits
      cases hfits
  unfold Session.rungChoice
  dsimp only
  split_ifs <;> omega

/-- A ladder with nothing observed is priced at the nominal size (R108). -/
theorem effectiveRatio_unobserved {ladder : List Rung} (h : ∀ e ∈ ladder, e.observed = false) (k : Nat) :
    effectiveRatio ladder k = 256 := by
  have hbelow : (ladder.take (k + 1)).filter (·.observed) = [] :=
    List.filter_eq_nil_iff.mpr fun e he => by simp [h e (List.mem_of_mem_take he)]
  have habove : (ladder.drop (k + 1)).find? (·.observed) = none :=
    List.find?_eq_none.mpr fun e he => by simp [h e (List.mem_of_mem_drop he)]
  simp [effectiveRatio, hbelow, habove]

/-! ### Granting to the one session that waits (R128, R130, R133, R134) -/

/-- The free slot with the lowest number (R128). -/
theorem State.freeSlot_eq_some {s : State} {k : SlotId} (hpool : k.toNat < s.settings.slotCount)
    (hfree : s.arbiter.slots.get k = none) (hlower : ∀ j : SlotId, j.toNat < k.toNat → s.arbiter.slots.get j ≠ none) :
    s.freeSlot = some k := by
  obtain ⟨lower, rest, hall, hlt⟩ := Idx4.all_eq_append k
  rw [State.freeSlot, State.pool, List.find?_filter, List.find?_eq_some_iff_append]
  refine ⟨by simp [hpool, hfree], lower, rest, hall, fun j hj => ?_⟩
  simp [hlower j (hlt j hj)]

/-- The only entry is selected, urgent or not (R134). -/
theorem State.selectEntry_single {s : State} {e : QueueEntry} (h : s.arbiter.queue = [e]) : s.selectEntry = some e.session := by
  rw [State.selectEntry, h]
  cases ht : s.toldUrgent e.session <;> simp [ht, State.lowerLevel]

theorem State.grantAll_of_queue_nil {s : State} (h : s.arbiter.queue = []) : s.grantAll = s := by
  have hnone : s.grantOnce = none := by
    unfold State.grantOnce State.selectEntry
    rw [h]
    split
    · cases s.freeSlot <;> rfl
    · rfl
  have hstep : s.grantUpTo (3 + 1) = s := by rw [State.grantUpTo, hnone]
  exact hstep

theorem State.considerPreemption_not_queued {s : State} {i : SessionId} (h : s.isQueued i = false) :
    s.considerPreemption i = s := by
  have hnone : s.preemptionVictim i = none := if_neg fun hc => by
    obtain ⟨hq, _⟩ := hc
    rw [h] at hq
    cases hq
  rw [State.considerPreemption, hnone]

/-- A session that wants a fetch, with nobody waiting, a slot free and granting allowed, is granted at once (R130, R133). -/
theorem State.reexamine_granted {s : State} {i : SessionId} {k : SlotId} (hwants : s.wants i = true)
    (hqueue : s.arbiter.queue = []) (hallowed : s.grantsAllowed = true) (hslot : s.freeSlot = some k) (wasUrgent freed : Bool) :
    s.reexamine i wasUrgent freed = s.createRecord i k := by
  have hjoins : s.joins i = true := by simp [State.joins, hwants, State.isQueued, hqueue]
  have hadded : (s.appendEntry i).arbiter.queue = [⟨i, false⟩] := by simp [State.appendEntry, hqueue]
  have hremoved : (s.appendEntry i).removeEntry i = s := by
    obtain ⟨_, _, _, _, _, _, ⟨_, _, _, _⟩, _, _⟩ := s
    simp only at hqueue
    subst hqueue
    simp [State.removeEntry, State.appendEntry, State.setArbiter]
  have hgrant : (s.appendEntry i).grantOnce = some (s.createRecord i k) := by
    have hslot' : (s.appendEntry i).freeSlot = some k := hslot
    have hallowed' : (s.appendEntry i).grantsAllowed = true := hallowed
    rw [State.grantOnce, if_pos hallowed', hslot', State.selectEntry_single hadded]
    simp only [hremoved]
  have hempty : (s.createRecord i k).arbiter.queue = [] := hqueue
  have hall : (s.appendEntry i).grantAll = s.createRecord i k :=
    (State.grantAll_of_grantOnce hgrant).trans (State.grantAll_of_queue_nil hempty)
  have hnot : (s.createRecord i k).isQueued i = false := by simp [State.isQueued, hempty]
  rw [State.reexamine, if_pos hjoins, hall]
  dsimp only
  rw [State.considerPreemption_not_queued hnot, ite_self]

/-! ### The session just opened (R40, R45, R102) -/

/-- The first segment of an acceptable programme is available (R40, R43). -/
theorem openedRecord_segmentAvailable {o : OpenFields} (hsound : ¬ openDefect o) (now : PartTime) :
    (openedRecord o now).segmentAvailable = true := by
  have hmode : o.mode.toNat = 1 ∨ (o.mode.toNat = 0 ∧ o.lastSegment.toNat ≠ 0xFFFFFFFF ∧
      o.firstSegment.toNat ≤ o.lastSegment.toNat) := by
    simp only [openDefect, not_or] at hsound
    omega
  have hwritten : (openedRecord o now).segmentAvailable = if decide (o.mode.toNat = 1) then
      decide (o.firstSegment.toNat ≤ o.firstSegment.toNat)
    else (if o.lastSegment.toNat = 0xFFFFFFFF then none else some o.lastSegment.toNat).elim false
      fun l => decide (o.firstSegment.toNat ≤ l) := rfl
  rw [hwritten]
  obtain hlive | ⟨hdemand, hlast, hle⟩ := hmode
  · simp [hlive]
  · simp [hdemand, hlast, hle]

theorem State.wants_of_priming {s : State} {i : SessionId} (hstate : (s.session i).state = .priming)
    (hfetch : (s.session i).fetch = none) (hsegment : (s.session i).segmentAvailable = true) : s.wants i = true := by
  simp [State.wants, hstate, hfetch, hsegment]

/-- Nothing is learned of a ladder just written, so an order is priced at the nominal size (R102, R112). -/
theorem openedRecord_predictedSize (o : OpenFields) (now : PartTime) (k : Nat) :
    (openedRecord o now).predictedSize k = (openedRecord o now).bitrate k * (openedRecord o now).segmentMs * 256 / 2048 := by
  have hnew : ∀ e ∈ (openedRecord o now).ladder, e.observed = false := by
    intro e he
    obtain ⟨_, _, rfl⟩ := List.mem_map.mp he
    rfl
  rw [Session.predictedSize, effectiveRatio_unobserved hnew]

/-- No rung of an acceptable programme is empty (R39, R43, R44). -/
theorem openedRecord_predictedSize_pos {o : OpenFields} (hsound : ¬ openDefect o) (now : PartTime) {k : Nat}
    (hk : k ≤ (openedRecord o now).cap) : 0 < (openedRecord o now).predictedSize k := by
  simp only [openDefect, not_or] at hsound
  obtain ⟨hne, _, hrates, _⟩ := hsound
  have hlt : k < o.bitrates.length := by
    have hcap : (openedRecord o now).cap ≤ o.bitrates.length - 1 := Nat.min_le_left _ _
    omega
  have hladder : (openedRecord o now).ladder = o.bitrates.map fun b => ⟨b.toNat, 256, false⟩ := rfl
  have hbitrate : (openedRecord o now).bitrate k = o.bitrates[k].toNat := by
    rw [Session.bitrate, hladder, List.getElem?_map, List.getElem?_eq_getElem hlt]
    rfl
  have hrate : 32 ≤ o.bitrates[k].toNat := Nat.le_of_not_lt fun h => hrates ⟨_, List.getElem_mem hlt, .inl h⟩
  have hsegment : 500 ≤ (openedRecord o now).segmentMs := Nat.le_max_left _ _
  have hproduct : 32 * 500 ≤ o.bitrates[k].toNat * (openedRecord o now).segmentMs := Nat.mul_le_mul hrate hsegment
  rw [openedRecord_predictedSize, hbitrate]
  omega

/-- What a grant writes of the sessions (R121, R145). -/
theorem State.session_createRecord (s : State) (i j : SessionId) (k : SlotId) : (s.createRecord i k).session j =
    if j = i then
      { s.session i with
        tagCounter := (s.session i).tagCounter + 1#8, fetch := some (s.newRecord i k), rungLimit := none }
    else s.session j := by
  simp only [State.createRecord, State.raiseOrder, State.setSlot, State.updNotices_session, State.setArbiter_session,
    State.session_updSession]

section Opened

variable (s : State) (i : SessionId) (o : OpenFields)

/-- The state with the record of an OPEN written. -/
def State.opened : State := s.withSession i (openedRecord o s.partTime)

theorem State.session_opened (j : SessionId) :
    (s.opened i o).session j = if j = i then openedRecord o s.partTime else s.session j := Four.get_set _ _ _ _

theorem State.session_opened_same : (s.opened i o).session i = openedRecord o s.partTime := Four.get_set_same _ _ _

/-- The order of a session just opened is the choice at level 0, with no constraint (R115 to R121). -/
theorem State.decideRung_opened : ∃ share fit need,
    (s.opened i o).decideRung i = (openedRecord o s.partTime).rungChoice share 0 fit need := by
  refine ⟨(s.opened i o).share i, s.settings.fit, s.settings.upHoldNeeded, ?_⟩
  rw [State.decideRung, State.level, s.session_opened_same]
  rfl

/-- The record that a grant creates for a session just opened, with tag 1 (R144, R145). -/
theorem State.newRecord_opened (k : SlotId) : (s.opened i o).newRecord i k =
    { tag := 1#8, segment := o.firstSegment.toNat, rung := (s.opened i o).decideRung i
      expected := (openedRecord o s.partTime).bitrate ((s.opened i o).decideRung i) * (openedRecord o s.partTime).segmentMs *
        256 / 2048
      received := 0, state := .ordered, grantTime := s.partTime
      activityExpiry := s.partTime + BitVec.ofNat 32 s.settings.activityTimeout
      attempt := 0, retryMark := false, replacementMark := false, slot := k } := by
  rw [← openedRecord_predictedSize, State.newRecord, s.session_opened_same]
  rfl

end Opened

/-- Settles O25: the session wants a fetch at once, and it is the only one that waits for the free slot. -/
theorem openIsGrantedAtOnce : Obligations.OpenIsGrantedAtOnce := by
  intro o i k s hs hn hclosed hsound hqueue hhold hcode hpool hfree hlower r
  have hsession : (s.opened i o).session i = r := s.session_opened_same i o
  have hwants : (s.opened i o).wants i = true := State.wants_of_priming (by rw [hsession]; rfl) (by rw [hsession]; rfl)
    (by rw [hsession]; exact openedRecord_segmentAvailable hsound _)
  have hallowed : (s.opened i o).grantsAllowed = true := by
    simp [State.grantsAllowed, State.opened, State.withSession, hhold, hcode]
  have hgranted := State.reexamine_granted hwants hqueue hallowed (State.freeSlot_eq_some hpool hfree hlower) false false
  have hfloor : r.floor ≤ r.cap := Nat.min_le_left _ _
  obtain ⟨share, fit, need, hrung⟩ := s.decideRung_opened i o
  obtain ⟨hleast, hmost⟩ := Session.rungChoice_mem hfloor share 0 fit need
  refine ⟨(s.opened i o).createRecord i k, (s.opened i o).decideRung i, ?_, ?_, ?_, fun hmark => ?_, ?_, fun j hj => ?_, rfl,
    rfl, rfl, rfl, rfl, rfl⟩
  · rw [exec_open_taken hs hn hclosed hsound, ← hgranted]; rfl
  · rw [hrung]; exact hleast
  · rw [hrung]; exact hmost
  · rw [hrung]; exact Session.rungChoice_at_zero hfloor hmark (fun _ => openedRecord_predictedSize_pos hsound _) _ _ _
  · rw [State.session_createRecord, if_pos rfl, State.newRecord_opened, hsession]; rfl
  · rw [State.session_createRecord, if_neg hj, State.session_opened, if_neg hj]

end Sys2Proof.Machine

/-! O26. CLOSE: the session shut, and what granting on its slot leaves of it (R18, R47, R48, R134, R135, R157). -/

namespace Sys2Proof.Machine

open Sys2Proof

/-! ### Granting passes over a session that does not wait (R134) -/

theorem State.isQueued_iff (s : State) (i : SessionId) : s.isQueued i = true ↔ ∃ e ∈ s.arbiter.queue, e.session = i := by
  simp [State.isQueued]

/-- Of entries compared by level, one is kept (R134). -/
theorem State.foldl_lowerLevel_mem (s : State) (l : List QueueEntry) {best : Option SessionId} {j : SessionId}
    (h : l.foldl s.lowerLevel best = some j) : best = some j ∨ ∃ e ∈ l, e.session = j := by
  induction l generalizing best with
  | nil => exact .inl h
  | cons e l ih =>
    obtain hbest | ⟨d, hd, hj⟩ := ih h
    · have hkept : best = some j ∨ e.session = j := by
        unfold State.lowerLevel at hbest
        split at hbest
        · exact .inr (Option.some.inj hbest)
        · split at hbest
          · exact .inr (Option.some.inj hbest)
          · exact .inl hbest
      exact hkept.imp_right fun hj => ⟨e, List.mem_cons_self, hj⟩
    · exact .inr ⟨d, List.mem_cons_of_mem _ hd, hj⟩

/-- The session selected for a grant waits (R134). -/
theorem State.isQueued_of_selectEntry {s : State} {j : SessionId} (h : s.selectEntry = some j) : s.isQueued j = true := by
  rw [State.isQueued_iff]
  unfold State.selectEntry at h
  split at h
  · next i hbest =>
    cases h
    obtain hnone | ⟨e, he, hj⟩ := s.foldl_lowerLevel_mem _ hbest
    · cases hnone
    · exact ⟨e, List.mem_of_mem_filter he, hj⟩
  · obtain ⟨e, he, hj⟩ := Option.map_eq_some_iff.mp h
    exact ⟨e, List.mem_of_head? he, hj⟩

/-- What a grant writes of the pending sets (R14, R16). -/
theorem State.notices_createRecord (s : State) (i j : SessionId) (k : SlotId) : (s.createRecord i k).notices j =
    if j = i then { s.notices i with order := true, cancel := none } else s.notices j :=
  State.notices_updNotices _ _ _ _

theorem State.isQueued_removeEntry (s : State) (i j : SessionId) :
    (s.removeEntry i).isQueued j = (j != i && s.isQueued j) := by
  rw [Bool.eq_iff_iff]
  simp only [State.isQueued_iff, Bool.and_eq_true, bne_iff_ne, State.removeEntry, State.setArbiter_arbiter, List.mem_filter]
  constructor
  · rintro ⟨e, ⟨he, hne⟩, rfl⟩
    exact ⟨hne, e, he, rfl⟩
  · rintro ⟨hne, e, he, rfl⟩
    exact ⟨e, ⟨he, hne⟩, rfl⟩

/-- Session `i` does not wait, and stands in `t` as in `s`. -/
structure PassedOver (i : SessionId) (s t : State) : Prop where
  queued : t.isQueued i = false
  session : t.session i = s.session i
  notices : t.notices i = s.notices i

theorem PassedOver.grantOnce {i : SessionId} {s t u : State} (h : PassedOver i s t) (hg : t.grantOnce = some u) :
    PassedOver i s u := by
  obtain ⟨_, k, j, _, hj, rfl⟩ := State.grantOnce_eq_some hg
  have hne : i ≠ j := by
    rintro rfl
    exact absurd h.queued (by simp [State.isQueued_of_selectEntry hj])
  refine ⟨?_, ?_, ?_⟩
  · show (t.removeEntry j).isQueued i = false
    rw [State.isQueued_removeEntry, h.queued, Bool.and_false]
  · rw [State.session_createRecord, if_neg hne]; exact h.session
  · rw [State.notices_createRecord, if_neg hne]; exact h.notices

theorem PassedOver.grantUpTo {i : SessionId} {s : State} (n : Nat) {t : State} (h : PassedOver i s t) :
    PassedOver i s (t.grantUpTo n) := by
  induction n generalizing t with
  | zero => exact h
  | succ n ih =>
    rw [State.grantUpTo]
    split
    · next u hu => exact ih (h.grantOnce hu)
    · exact h

/-! ### The session shut (R47, R157) -/

/-- The record as CLOSE leaves it: CLOSED at level 0, with no record and no expiry, its other fields kept (R47). -/
def Session.shut (r : Session) (now : PartTime) : Session :=
  { r with
    state := .closed, storedLevel := 0, refTime := now, stallExpiry := none, lowExpiry := none
    refillExpiry := none, fetch := none }

/-- The ending path leaves the queue as it is (R157). -/
theorem State.queue_endRecord (s : State) (i : SessionId) (why : Option CancelReason) :
    (s.endRecord i why).arbiter.queue = s.arbiter.queue := by
  cases h : (s.session i).fetch with
  | none => rw [State.endRecord_none _ _ _ h]
  | some f => rw [State.endRecord_eq _ _ _ _ h]

/-- CLOSE before the arbiter acts on the freed slot: the record's ending, and then the session, its entry and its pending
set (R18, R47). -/
theorem State.shut_eq (s : State) (i : SessionId) : s.shut i =
    { (s.endRecord i none).withSession i ((s.session i).shut s.partTime) with
      arbiter := { (s.endRecord i none).arbiter with queue := s.arbiter.queue.filter fun d => d.session != i }
      link := { (s.endRecord i none).link with notices := (s.endRecord i none).link.notices.set i NoticeSet.empty } } := by
  have hended : (s.endRecord i none).session i = { s.session i with fetch := none } := by
    rw [State.session_endRecord, if_pos rfl]
  have hshut : Session.rearm { ((s.endRecord i none).session i).writeLevel s.partTime 0 with state := .closed } =
      (s.session i).shut s.partTime := by rw [hended]; rfl
  rw [← hshut, ← s.queue_endRecord i none]
  rfl

/-- A session shut does not wait (R47). -/
theorem State.shut_passedOver (s : State) (i : SessionId) : PassedOver i (s.shut i) (s.shut i) := by
  have hqueue : (s.shut i).isQueued i = ((s.endRecord i none).removeEntry i).isQueued i := rfl
  refine ⟨?_, rfl, rfl⟩
  rw [hqueue, State.isQueued_removeEntry, bne_self_eq_false, Bool.false_and]

theorem State.serveClose_eq (s : State) (i : SessionId) :
    s.serveClose i = (if (s.session i).fetch = none then s.shut i else (s.shut i).grantAll, .plain) := by
  rw [State.serveClose, State.hasFetch]
  cases (s.session i).fetch <;> rfl

/-! ### The frame of a CLOSE (R174, log 23) -/

/-- A CLOSE of an open session clears that session's notices, its turn or not (R18, R174). -/
theorem State.clearsNext_close {s : State} {i : SessionId} (hturn : s.hasTurn (.session i))
    (hopen : (s.session i).state ≠ .closed) : s.clearsNext (ReqKind.code .closeSession) (sessionByte i) 0#8 []
      (frameSum (ReqKind.code .closeSession) (sessionByte i) 0#8 []) = true := by
  have hlen : ReqKind.requiredLength .closeSession [] = some 0 := rfl
  simp [State.clearsNext, hlen, hturn.nextSource, (Session.isOpen_iff _).mpr hopen]

/-- Settles O26: CLOSE finds the state as it stands, and the grants on the slot it frees pass over the session shut. -/
theorem closeShutsSession : Obligations.CloseShutsSession := by
  intro i s hlink hstands hopen e shut u
  have hu : s.shut i = u := s.shut_eq i
  have hshut : PassedOver i u u := hu ▸ s.shut_passedOver i
  have hserve : s.serve .closeSession (sessionByte i) [] =
      (if (s.session i).fetch = none then u else u.grantAll, .plain) := by
    rw [State.serve_session rfl, State.ifOpen_open hopen, s.serveClose_eq, hu]
  have hexec : exec (.closeSession (clean (sessionByte i))) s = .next (afterReply
      (if (s.session i).fetch = none then u else u.grantAll) (replyTo .closeSession (sessionByte i) .ok [])) := by
    rw [exec_request rfl, State.receiveRequest_asItStands (k := .closeSession) (target := sessionByte i) (p := []) hlink rfl
      (hstands.imp_right fun hturn => State.clearsNext_close hturn hopen), hserve]
    rfl
  have hcore : PassedOver i u (if (s.session i).fetch = none then u else u.grantAll) := by
    split
    · exact hshut
    · exact hshut.grantUpTo _
  refine ⟨_, .ite (.refl u) u.grantAll_only, rfl, ?_, ?_, hcore.queued, hexec⟩
  · rw [hcore.session]; exact Four.get_set_same _ _ _
  · rw [hcore.notices]; exact Four.get_set_same _ _ _

end Sys2Proof.Machine

/-! The level expiries as they are armed and fall (O43, O44, O47), and the requests that act on the level, the state or the edge
(O27, O28, O30, O32, O33; R60 to R82). -/

namespace Sys2Proof.Machine

open Sys2Proof

/-! ### The level expiries (R62 to R68) -/

/-- Settles O47, by the arming condition of each expiry. -/
theorem levelExpiriesArmed : Obligations.LevelExpiriesArmed := by
  intro r
  refine ⟨fun hp hl => if_pos ⟨hp, hl⟩, fun h => if_neg ?_, fun hp hm hl => if_pos ⟨hp, hm, hl⟩, fun h => if_neg ?_,
    fun hp hl => if_pos ⟨hp, hl⟩, fun h => if_neg ?_⟩
  · rintro ⟨hp, hl⟩
    exact h.elim (absurd hp) (by omega)
  · rintro ⟨hp, hm, hl⟩
    exact h.elim (absurd hp) (by omega)
  · rintro ⟨hp, hl⟩
    exact h.elim (absurd hp) (by omega)

/-- Outside PLAYING rearming clears the three expiries (R62 to R65). -/
theorem Session.rearm_of_not_playing {r : Session} (h : r.state ≠ .playing) :
    r.rearm = { r with stallExpiry := none, lowExpiry := none, refillExpiry := none } := by
  obtain ⟨_, hstall, _, hlow, _, hrefill⟩ := levelExpiriesArmed r
  rw [Session.rearm, hstall (.inl h), hlow (.inl h), hrefill (.inl h)]

/-- The end of playing at level 0 with everything fetched: ENDED, the expiries clear (R66, R72). -/
def Session.endedAtZero (r : Session) (now : PartTime) : Session :=
  { r with
    storedLevel := 0, refTime := now, state := .ended, stallExpiry := none, lowExpiry := none, refillExpiry := none }

theorem Session.rearm_ended (r : Session) (now : PartTime) :
    ({ r.writeLevel now 0 with state := .ended } : Session).rearm = r.endedAtZero now :=
  Session.rearm_of_not_playing nofun

theorem Session.rearm_stalled (r : Session) (now : PartTime) :
    ({ (r.writeLevel now 0).countStall with state := .stalled } : Session).rearm = r.stalledAtZero now := by
  rw [Session.stalledAtZero, Nat.min_comm]
  rfl

/-- Level 0 written and the session run dry, with the expiries rearmed: it has ended when all is fetched, and stalls otherwise
(R65, R66, R72). -/
theorem State.rearm_runDry_zero (s : State) (i : SessionId) :
    ((s.updSession i fun r => r.writeLevel s.partTime 0).runDry i).rearm i =
      if (s.session i).allFetched then s.withSession i ((s.session i).endedAtZero s.partTime) else s.stalledAtZero i := by
  have hall : ((s.updSession i fun r => r.writeLevel s.partTime 0).session i).allFetched = (s.session i).allFetched := by
    rw [State.session_updSession_same]; rfl
  rw [State.rearm_runDry, hall]
  split
  · rw [State.updSession_updSession, ← Session.rearm_ended]; rfl
  · rw [State.updSession_updSession, State.updSession, State.raiseStall_setSession, Session.rearm_stalled]; rfl

/-- What the arbiter makes of a state that a session's expiry leaves it. -/
theorem State.stallNow_eq (s : State) (i : SessionId) : s.stallNow i =
    (if (s.session i).allFetched then s.withSession i ((s.session i).endedAtZero s.partTime)
      else s.stalledAtZero i).reexamine i (s.toldUrgent i) false := by
  rw [State.stallNow, State.settle, State.rearm_runDry_zero]

/-- An event taken while NRST is high, with no choice left to the transmitter. -/
theorem whileRunning_fall {s : State} (hn : s.nrstHigh = true) (hs : s.transmitterServed) {expiry : Option PartTime}
    (hdue : expiry = some s.partTime) (now : State → State) :
    whileRunning s (if isDue expiry s.partTime then now s.leaveIdle else s) = .next (now s) := by
  rw [whileRunning, if_pos hn, if_pos ((isDue_iff _ _).mpr hdue), s.leaveIdle_served hs]

/-- Settles O43, by `State.stallNow_eq`. -/
theorem stallExpiryStallsOrEnds : Obligations.StallExpiryStallsOrEnds := by
  intro i s hn hs hdue r
  have hexec : exec (.stallExpiry i) s = .next (s.stallNow i) := whileRunning_fall hn hs hdue (·.stallNow i)
  have hclear : (s.stalledAtZero i).session i = (s.session i).stalledAtZero s.partTime := Four.get_set_same _ _ _
  rw [hexec, s.stallNow_eq]
  refine ⟨fun hall => ⟨_, State.handedOver_reexamine _ i _ false, ?_⟩,
    fun hall => ⟨_, State.handedOver_reexamine _ i _ false, ?_, ?_, ?_, ?_⟩⟩
  · rw [if_pos (show (s.session i).allFetched = true from hall)]; rfl
  · rw [hclear]; rfl
  · rw [hclear]; rfl
  · rw [hclear]; rfl
  · rw [if_neg (by simp [show (s.session i).allFetched = false from hall])]

/-- Settles O44. -/
theorem lowAndRefillExpiries : Obligations.LowAndRefillExpiries := by
  intro i s hn hs
  exact ⟨fun hdue => ⟨_, State.handedOver_reexamine _ i false false, whileRunning_fall hn hs hdue (·.lowNow i)⟩,
    fun hdue => ⟨_, State.handedOver_reexamine _ i _ false, whileRunning_fall hn hs hdue (·.refillNow i)⟩⟩

/-! ### PLAY and PAUSE of one session (R72, R73) -/

section Control

variable {s t : State} {i : SessionId} {cmd : Instr} {k : ReqKind} {one : Option State} (hs : s.linkReady)
  (hreq : requestOf cmd = some (k, clean (sessionByte i), [])) (hlen : k.requiredLength [] = some 0)
  (hserve : s.serveSession k i [] = some (s.ifOpen i (answerOne s one))) (hopen : (s.session i).state ≠ .closed)
include hs hreq hlen hserve hopen

/-- PLAY or PAUSE of an open session that takes it (R73). -/
theorem exec_control_taken (hone : one = some t) :
    exec cmd s = .next (afterReply t (replyTo k (sessionByte i) .ok [])) :=
  exec_sessionRequest hs hreq hlen (hserve.trans (by rw [State.ifOpen_open hopen, hone]))

/-- PLAY or PAUSE of an open session that refuses it (R73). -/
theorem exec_control_refused (hone : one = none) :
    exec cmd s = .next (afterReply s (replyTo k (sessionByte i) .wrongState [])) :=
  exec_sessionRequest hs hreq hlen (hserve.trans (by rw [State.ifOpen_open hopen, hone]))

end Control

theorem Session.takesControl_eq_true {r : Session} :
    r.takesControl = true ↔ r.state ≠ .closed ∧ r.state ≠ .ended ∧ r.state ≠ .fault := by
  cases h : r.state <;> simp [Session.takesControl, h]

theorem exec_play_taken {s : State} {i : SessionId} (hs : s.linkReady) (h : (s.session i).takesControl = true) :
    exec (.play (clean (sessionByte i))) s = .next (afterReply (s.playedAlone i) (replyTo .play (sessionByte i) .ok [])) := by
  obtain ⟨hopen, _⟩ := Session.takesControl_eq_true.mp h
  exact exec_control_taken hs rfl rfl rfl hopen ((s.playOne_eq i).trans (if_pos h))

theorem exec_pause_taken {s : State} {i : SessionId} (hs : s.linkReady) (h : (s.session i).takesControl = true) :
    exec (.pause (clean (sessionByte i))) s =
      .next (afterReply (s.pausedAlone i) (replyTo .pause (sessionByte i) .ok [])) := by
  obtain ⟨hopen, _⟩ := Session.takesControl_eq_true.mp h
  exact exec_control_taken hs rfl rfl rfl hopen ((s.pauseOne_eq i).trans (if_pos h))

/-- PLAY of a PRIMED or PAUSED session at a level above 0, or with everything fetched (R72, R73). -/
theorem State.playedAlone_moves {s : State} {i : SessionId} {st : SessionState}
    (h : (s.session i).state = .primed ∨ (s.session i).state = .paused) (hstalls : (s.session i).stallsOnPlay = false)
    (hst : (if (s.session i).storedLevel = 0 then SessionState.ended else .playing) = st) :
    s.playedAlone i = (s.withSession i ((s.session i).movedTo s.partTime st)).reexamine i (s.toldUrgent i) false := by
  rw [s.playedAlone_eq, if_pos h, State.playControl_moves h hstalls, hst]
  rfl

/-- PLAY at level 0 with segments still to come (R72). -/
theorem State.playedAlone_stalls {s : State} {i : SessionId} (h : (s.session i).stallsOnPlay = true) :
    s.playedAlone i = (s.stalledAtZero i).reexamine i (s.toldUrgent i) false := if_pos h

/-- PAUSE of a PLAYING or STALLED session (R73). -/
theorem State.pausedAlone_moves {s : State} {i : SessionId}
    (h : (s.session i).state = .playing ∨ (s.session i).state = .stalled) :
    s.pausedAlone i = (s.withSession i ((s.session i).movedTo s.partTime .paused)).reexamine i (s.toldUrgent i) false := by
  have hafter : (s.session i).afterPause s.partTime = (s.session i).movedTo s.partTime .paused := by
    unfold Session.afterPause
    rcases h with h | h <;> simp only [h]
  rw [s.pausedAlone_eq, if_pos h, State.pauseControl, State.withControl_keep, hafter]
  rfl

/-- Settles O27: the PLAY of a session that takes it is `State.playedAlone`, and its states tell the cases apart. -/
theorem playByState : Obligations.PlayByState := by
  intro i s hs r ok run
  have htaken : ∀ {t}, r.takesControl = true → s.playedAlone i = t → run = .next (afterReply t ok) := fun h ht =>
    ht ▸ exec_play_taken hs h
  have hwritten : ¬ (r.state = .primed ∨ r.state = .paused) →
      s.playedAlone i = s.setSession i (r.afterPlay s.partTime) := State.playedAlone_unmoved
  refine ⟨fun h => htaken ?_ ?_, fun h => htaken ?_ ?_, fun h => ?_, fun h => ?_, fun h => htaken h rfl⟩
  · simp [Session.takesControl_eq_true, h]
  · rw [hwritten (by simp [h]), Session.afterPlay, h]
    rfl
  · rcases h with h | h <;> simp [Session.takesControl_eq_true, h]
  · have hkeep : r.afterPlay s.partTime = r := by rcases h with h | h <;> rw [Session.afterPlay, h]
    rw [hwritten (by rcases h with h | h <;> simp [h]), hkeep, State.setSession_session]
  · have hnot : ¬ r.takesControl = true := by rcases h with h | h <;> simp [Session.takesControl_eq_true, h]
    exact exec_control_refused hs rfl rfl rfl (by rcases h with h | h <;> simp [show (s.session i).state = _ from h])
      ((s.playOne_eq i).trans (if_neg hnot))
  · have hcontrol : r.takesControl = true := by rcases h with h | h <;> simp [Session.takesControl_eq_true, h]
    refine ⟨fun hlevel => ⟨_, State.handedOver_reexamine _ i _ false, htaken hcontrol (State.playedAlone_moves h ?_ ?_)⟩,
      fun hzero hall => ⟨_, State.handedOver_reexamine _ i _ false, htaken hcontrol (State.playedAlone_moves h ?_ ?_)⟩,
      fun hzero hall => ⟨_, State.handedOver_reexamine _ i _ false, htaken hcontrol (State.playedAlone_stalls ?_)⟩⟩
    · exact Bool.eq_false_iff.mpr fun hstalls =>
        let ⟨_, hzero, _⟩ := (Session.stallsOnPlay_iff _).mp hstalls
        absurd hzero (Nat.ne_of_gt hlevel)
    · exact if_neg (Nat.ne_of_gt hlevel)
    · exact Bool.eq_false_iff.mpr fun hstalls =>
        let ⟨_, _, hnot⟩ := (Session.stallsOnPlay_iff _).mp hstalls
        absurd hall (by simp [show r.allFetched = false from hnot])
    · exact if_pos hzero
    · exact (Session.stallsOnPlay_iff _).mpr ⟨h, hzero, hall⟩

/-- Settles O28: the PAUSE of a session that takes it is `State.pausedAlone`, and its states tell the cases apart. -/
theorem pauseByState : Obligations.PauseByState := by
  intro i s hs r ok run
  have htaken : ∀ {t}, r.takesControl = true → s.pausedAlone i = t → run = .next (afterReply t ok) := fun h ht =>
    ht ▸ exec_pause_taken hs h
  have hwritten : ¬ (r.state = .playing ∨ r.state = .stalled) →
      s.pausedAlone i = s.setSession i (r.afterPause s.partTime) := State.pausedAlone_unmoved
  refine ⟨fun h => htaken ?_ ?_, fun h => htaken ?_ ?_, fun h => ?_,
    fun h => ⟨_, State.handedOver_reexamine _ i _ false, htaken ?_ (State.pausedAlone_moves h)⟩, fun h => htaken h rfl⟩
  · simp [Session.takesControl_eq_true, h]
  · rw [hwritten (by simp [h]), Session.afterPause, h]
    rfl
  · rcases h with h | h <;> simp [Session.takesControl_eq_true, h]
  · have hkeep : r.afterPause s.partTime = r := by rcases h with h | h <;> rw [Session.afterPause, h]
    rw [hwritten (by rcases h with h | h <;> simp [h]), hkeep, State.setSession_session]
  · have hnot : ¬ r.takesControl = true := by rcases h with h | h <;> simp [Session.takesControl_eq_true, h]
    exact exec_control_refused hs rfl rfl rfl (by rcases h with h | h <;> simp [show (s.session i).state = _ from h])
      ((s.pauseOne_eq i).trans (if_neg hnot))
  · rcases h with h | h <;> simp [Session.takesControl_eq_true, h]

/-! ### SEEK (R78, R79) -/

theorem Session.seekBeyond_iff (r : Session) (segment : Nat) :
    r.seekBeyond segment = true ↔ r.live = false ∧ ∃ l, r.lastSegment = some l ∧ l < segment := by
  cases hlast : r.lastSegment <;> simp [Session.seekBeyond, hlast]

/-- The changes of R78 with the expiries rearmed, which PRIMING clears (R65, R79). -/
theorem Session.rearm_seekTo (r : Session) (now : PartTime) (segment : Nat) : (r.seekTo now segment).rearm =
    { r with
      storedLevel := 0, refTime := now, nextSegment := segment, allFetched := false, upHold := 0, rungLimit := none
      attempts := 0, autostart := decide (r.state = .playing), state := .priming
      stallExpiry := none, lowExpiry := none, refillExpiry := none } := by
  have hplaying : (r.state == .playing) = decide (r.state = .playing) := rfl
  rw [Session.rearm_of_not_playing (show SessionState.priming ≠ .playing from nofun), Session.seekTo, hplaying]
  rfl

theorem State.hasFetch_eq (s : State) (i : SessionId) : s.hasFetch i = decide ((s.session i).fetch ≠ none) := by
  rw [State.hasFetch]
  cases (s.session i).fetch <;> rfl

/-- Settles O30: the ending path, the entry and the record of R78, in one re-examination. -/
theorem seekReturnsToPriming : Obligations.SeekReturnsToPriming := by
  intro i segment s hs hopen r beyond
  have hbeyond : r.seekBeyond segment.toNat = true ↔ beyond := r.seekBeyond_iff _
  have hexec : ∀ {core : State} {a : Answer}, s.serveSeek i segment.toNat = (core, a) →
      exec (.seek (clean (sessionByte i)) segment) s =
        .next (afterReply core (replyTo .seek (sessionByte i) a.status a.fields)) := fun h => by
    rw [← field32_le32 segment] at h
    exact exec_sessionRequest hs rfl rfl (congrArg some ((State.ifOpen_open hopen _).trans h))
  refine ⟨fun h => hexec (if_pos (hbeyond.mpr h)), fun h => ⟨_, State.handedOver_reexamine _ i _ _, ?_⟩⟩
  have hended : (s.endRecord i none).session i = { r with fetch := none } := by
    rw [State.session_endRecord, if_pos rfl]
  have hrecord : (((s.endRecord i none).session i).seekTo s.partTime segment.toNat).rearm =
      { r with
        storedLevel := 0, refTime := s.partTime, nextSegment := segment.toNat, allFetched := false, upHold := 0
        rungLimit := none, attempts := 0, autostart := decide (r.state = .playing), state := .priming
        stallExpiry := none, lowExpiry := none, refillExpiry := none, fetch := none } := by
    rw [hended, Session.rearm_seekTo]
  rw [hexec (if_neg (mt hbeyond.mp h)), State.settle, State.rearm, State.updSession_updSession, s.hasFetch_eq,
    ← hrecord, ← s.queue_endRecord i none]
  rfl

/-! ### PLAYOUT (R76, R77) -/

/-- The priming threshold moves the session on: out of PRIMING or STALLED (R71). -/
def Session.starts (r : Session) : Bool := (r.state == .priming || r.state == .stalled) && r.thresholdMet

/-- The record as the priming threshold moves it on (R71). -/
def Session.started (r : Session) : Session :=
  if r.state = .priming then { r with state := (if r.autostart then .playing else .primed), autostart := false }
  else { r with state := .playing }

theorem Session.starts_iff (r : Session) : r.starts = true ↔
    (r.state = .priming ∨ r.state = .stalled) ∧ (r.markS0 ≤ r.storedLevel ∨ r.allFetched = true) := by
  simp [Session.starts, Session.thresholdMet]

/-- The examination of R71: READY is raised where the threshold moves the session on, and nothing happens elsewhere. -/
theorem State.examinePriming_eq (s : State) (i : SessionId) : s.examinePriming i =
    if (s.session i).starts then (s.setSession i (s.session i).started).raiseReady i else s := by
  unfold State.examinePriming Session.starts Session.started
  cases h : (s.session i).state <;> simp [h]

/-- The record after the priming threshold has been examined (R71). -/
def Session.afterThreshold (r : Session) : Session := if r.starts then r.started else r

/-- The record after the zero-level rule, the expiries rearmed: a session PLAYING at level 0 has ended or stalled (R65, R72). -/
def Session.afterZero (r : Session) (now : PartTime) : Session :=
  if r.state = .playing ∧ r.storedLevel = 0 then (if r.allFetched then r.endedAtZero now else r.stalledAtZero now) else r.rearm

theorem Session.afterThreshold_keeps (r : Session) : r.afterThreshold = { r with
    state := r.afterThreshold.state, autostart := r.afterThreshold.autostart } := by
  unfold Session.afterThreshold Session.started
  split <;> [split; skip] <;> rfl

theorem State.withControl_withControl (s : State) (i : SessionId) (r r' : Session) (n n' : NoticeSet) :
    (s.withControl i r n).withControl i r' n' = s.withControl i r' n' := by
  simp only [State.withControl, Four.set_set]

theorem State.examinePriming_control (s : State) (i : SessionId) : s.examinePriming i =
    s.withControl i (s.session i).afterThreshold
      (if (s.session i).starts then { s.notices i with ready := true } else s.notices i) := by
  rw [State.examinePriming_eq, Session.afterThreshold]
  split
  · rfl
  · rw [State.withControl_keep, State.setSession_session]

theorem State.rearm_examineZero (s : State) (i : SessionId) (href : (s.session i).refTime = s.partTime) :
    (s.examineZero i).rearm i = s.withControl i ((s.session i).afterZero s.partTime)
      (if ((s.session i).state = .playing ∧ (s.session i).storedLevel = 0) ∧ (s.session i).allFetched = false then
        (s.notices i).withStall s.partTime else s.notices i) := by
  rw [State.examineZero, Session.afterZero]
  by_cases hzero : (s.session i).state = .playing ∧ (s.session i).storedLevel = 0
  · have hwrite : (s.session i).writeLevel s.partTime 0 = s.session i := by rw [← href, ← hzero.2]; rfl
    have hdry := s.rearm_runDry_zero i
    rw [State.updSession, hwrite, State.setSession_session] at hdry
    rw [if_pos hzero, if_pos hzero, hdry]
    cases hall : (s.session i).allFetched with
    | true => rw [if_pos rfl, if_pos rfl, if_neg (by simp), State.withControl_keep]; rfl
    | false => rw [if_neg Bool.false_ne_true, if_neg Bool.false_ne_true, if_pos ⟨hzero, rfl⟩]; rfl
  · rw [if_neg hzero, if_neg hzero, if_neg fun h => hzero h.1, State.withControl_keep]
    rfl

/-- PLAYOUT before the arbiter acts: the level written, the two examinations, the expiries rearmed (R65, R76, R77). -/
def State.playedOut (s : State) (i : SessionId) (v : Nat) : State :=
  (((s.updSession i fun r => r.writeLevel s.partTime v).examinePriming i).examineZero i).rearm i

/-- What PLAYOUT writes of the record and, through READY and STALL, of the pending set (R71, R72, R76). -/
theorem State.playedOut_control (s : State) (i : SessionId) (v : Nat) :
    let w := (s.session i).writeLevel s.partTime v
    let n := if w.starts then { s.notices i with ready := true } else s.notices i
    s.playedOut i v = s.withControl i (w.afterThreshold.afterZero s.partTime)
      (if (w.afterThreshold.state = .playing ∧ v = 0) ∧ (s.session i).allFetched = false then n.withStall s.partTime
        else n) := by
  intro w n
  have hfirst : (s.updSession i fun r => r.writeLevel s.partTime v).examinePriming i =
      s.withControl i w.afterThreshold n := by
    rw [State.examinePriming_control, State.session_updSession_same, State.updSession, ← State.withControl_keep,
      State.withControl_withControl, State.notices_withControl, if_pos rfl]
  have hsession : (s.withControl i w.afterThreshold n).session i = w.afterThreshold := by
    rw [State.session_withControl, if_pos rfl]
  have hnotices : (s.withControl i w.afterThreshold n).notices i = n := by rw [State.notices_withControl, if_pos rfl]
  have hkeeps := w.afterThreshold_keeps
  have hstored : w.afterThreshold.storedLevel = v := by rw [hkeeps]; rfl
  have hall : w.afterThreshold.allFetched = (s.session i).allFetched := by rw [hkeeps]; rfl
  rw [State.playedOut, hfirst, State.rearm_examineZero _ _ (by rw [hsession, hkeeps]; rfl), hsession, hnotices,
    State.withControl_withControl, hstored, hall]
  rfl

theorem Session.afterZero_level {r : Session} {now : PartTime} (href : r.refTime = now) :
    (r.afterZero now).level now = r.storedLevel := by
  have hat : ∀ {q : Session}, q.refTime = now → q.level now = q.storedLevel := fun h => by simp [Session.level, h]
  unfold Session.afterZero
  split
  · next hzero => rw [hzero.2]; split <;> exact hat rfl
  · exact hat href

/-- The level PLAYOUT leaves is the one it writes (R60, R76). -/
theorem State.level_playedOut (s : State) (i : SessionId) (v : Nat) : (s.playedOut i v).level i = v := by
  have hkeeps := ((s.session i).writeLevel s.partTime v).afterThreshold_keeps
  have hlevel := Session.afterZero_level (r := ((s.session i).writeLevel s.partTime v).afterThreshold) (now := s.partTime)
    (by rw [hkeeps]; rfl)
  rw [State.playedOut_control, State.level, State.session_withControl, if_pos rfl]
  refine hlevel.trans ?_
  rw [hkeeps]
  rfl

theorem State.servePlayout_taken {s : State} {i : SessionId} (h : (s.session i).takesControl = true) (level : Nat) :
    s.servePlayout i level = ((s.playedOut i (min level 120000)).reexamine i (s.toldUrgent i) false,
      ⟨if level ≤ 120000 then .ok else .clamped, put32 (min level 120000)⟩) := by
  have hlevel : ((s.playedOut i (min level 120000)).reexamine i (s.toldUrgent i) false).level i = min level 120000 := by
    rw [(State.reexamine_only _ i _ false).level, State.level_playedOut]
  have hstatus : Status1.ofSame (decide (min level 120000 = level)) = if level ≤ 120000 then .ok else .clamped := by
    simp [Status1.ofSame]
  have hserved : s.servePlayout i level = ((s.playedOut i (min level 120000)).reexamine i (s.toldUrgent i) false,
      ⟨Status1.ofSame (decide (min level 120000 = level)),
        put32 (((s.playedOut i (min level 120000)).reexamine i (s.toldUrgent i) false).level i)⟩) := by
    unfold State.servePlayout
    cases hst : (s.session i).state
    case closed | ended | fault => simp [Session.takesControl, hst] at h
    all_goals rfl
  rw [hserved, hlevel, hstatus]

theorem State.servePlayout_refused {s : State} {i : SessionId} (h : (s.session i).takesControl = false) (level : Nat) :
    s.servePlayout i level = (s, .refuse .wrongState) := by
  unfold State.servePlayout
  rcases Session.takesControl_eq_false.mp h with hst | hst | hst <;> simp only [hst]

section PlayedOut

variable {s : State} {i : SessionId} {v : Nat}

/-- Where the threshold moves nothing, what PLAYOUT writes is the level and the outcome of the zero-level rule (R72, R76). -/
theorem State.playedOut_unmoved (hstart : ((s.session i).writeLevel s.partTime v).starts = false) :
    s.playedOut i v = s.withControl i (((s.session i).writeLevel s.partTime v).afterZero s.partTime)
      (if ((s.session i).state = .playing ∧ v = 0) ∧ (s.session i).allFetched = false then
        (s.notices i).withStall s.partTime else s.notices i) := by
  have hnot : ¬ ((s.session i).writeLevel s.partTime v).starts = true := by simp [hstart]
  rw [s.playedOut_control, Session.afterThreshold, if_neg hnot, if_neg hnot]
  rfl

/-- Where neither examination applies, PLAYOUT writes the level alone (R76). -/
theorem State.playedOut_written (hstart : ((s.session i).writeLevel s.partTime v).starts = false)
    (hzero : ¬ ((s.session i).state = .playing ∧ v = 0)) :
    s.playedOut i v = s.withSession i ((s.session i).writeLevel s.partTime v).rearm := by
  have habove : ((s.session i).writeLevel s.partTime v).afterZero s.partTime =
      ((s.session i).writeLevel s.partTime v).rearm := if_neg hzero
  rw [State.playedOut_unmoved hstart, habove, if_neg fun h => hzero h.1, State.withControl_keep]
  rfl

/-- Where the threshold moves the session on at a level above 0, READY is raised (R71). -/
theorem State.playedOut_started (hstart : ((s.session i).writeLevel s.partTime v).starts = true) (hv : 0 < v) :
    s.playedOut i v = (s.withSession i ((s.session i).writeLevel s.partTime v).started.rearm).raiseReady i := by
  have hstored : ((s.session i).writeLevel s.partTime v).started.storedLevel = v := by
    unfold Session.started
    split <;> rfl
  have hnot : ∀ st : SessionState, ¬ (st = .playing ∧ v = 0) := fun _ h => absurd h.2 (Nat.ne_of_gt hv)
  rw [s.playedOut_control, Session.afterThreshold, if_pos hstart, if_pos hstart, Session.afterZero, hstored,
    if_neg (hnot _), if_neg fun h => hnot _ h.1]
  rfl

/-- A PLAYING session reported empty has ended or stalls (R72). -/
theorem State.playedOut_zero (hplaying : (s.session i).state = .playing) : s.playedOut i 0 =
    if (s.session i).allFetched then s.withSession i ((s.session i).endedAtZero s.partTime) else s.stalledAtZero i := by
  have hzero : ((s.session i).writeLevel s.partTime 0).afterZero s.partTime =
      if (s.session i).allFetched then (s.session i).endedAtZero s.partTime
      else (s.session i).stalledAtZero s.partTime := if_pos ⟨hplaying, rfl⟩
  rw [State.playedOut_unmoved (by simp [Session.starts, hplaying]), hzero]
  cases (s.session i).allFetched with
  | true =>
    simp only [Bool.true_eq_false, and_false, if_true, if_false]
    exact s.withControl_keep i _
  | false =>
    simp only [hplaying, Bool.false_eq_true, and_true, if_true, if_false]
    rfl

end PlayedOut

/-- Settles O32, by the examinations that the state and the level call for. -/
theorem playoutWritesLevel : Obligations.PlayoutWritesLevel := by
  intro i level s hs hopen v r r1 reply leaves ready met
  have hexec : ∀ {core : State} {a : Answer}, s.servePlayout i level.toNat = (core, a) →
      exec (.playout (clean (sessionByte i)) level) s =
        .next (afterReply core (replyTo .playout (sessionByte i) a.status a.fields)) := fun h => by
    rw [← field32_le32 level] at h
    exact exec_sessionRequest hs rfl rfl (congrArg some ((State.ifOpen_open hopen _).trans h))
  have hleaves : r.state ≠ .ended → r.state ≠ .fault → ∀ {u}, s.playedOut i v = u → leaves u := fun he hf u hu =>
    ⟨_, State.handedOver_reexamine u i _ false, hu ▸ hexec (State.servePlayout_taken
      (Session.takesControl_eq_true.mpr ⟨hopen, he, hf⟩) _)⟩
  have hstarts : r1.starts = true ↔ (r.state = .priming ∨ r.state = .stalled) ∧ met := r1.starts_iff
  refine ⟨fun h => hexec (State.servePlayout_refused (Session.takesControl_eq_false.mpr (.inr h)) _), fun h => ?_,
    fun hst hmet hv => ?_, fun hst hmet hv => ?_, fun hst hv hall => ?_, fun hst hv hall => ?_⟩
  · have hstays : r1.starts = false := Bool.eq_false_iff.mpr fun h' => by
      obtain ⟨hst, hmet⟩ := hstarts.mp h'
      rcases h with h | h | ⟨h, _⟩ | ⟨_, h⟩
      · simp [h] at hst
      · simp [h] at hst
      · simp [h] at hst
      · exact h hmet
    have habove : ¬ (r.state = .playing ∧ v = 0) := fun ⟨hst, hv⟩ => by
      rcases h with h | h | ⟨_, h⟩ | ⟨h, _⟩
      · simp [h] at hst
      · simp [h] at hst
      · omega
      · simp [hst] at h
    refine hleaves (fun hst => ?_) (fun hst => ?_) (State.playedOut_written hstays habove) <;> simp [hst] at h
  · refine hleaves (by simp [hst]) (by simp [hst]) ((State.playedOut_started (hstarts.mpr ⟨.inl hst, hmet⟩) hv).trans ?_)
    rw [Session.started, if_pos (show ((s.session i).writeLevel s.partTime v).state = .priming from hst)]
    rfl
  · refine hleaves (by simp [hst]) (by simp [hst]) ((State.playedOut_started (hstarts.mpr ⟨.inr hst, hmet⟩) hv).trans ?_)
    have hnot : ¬ ((s.session i).writeLevel s.partTime v).state = .priming := by
      simp [show (s.session i).state = _ from hst]
    rw [Session.started, if_neg hnot]
    rfl
  · have hended : ({ r1 with state := .ended } : Session).rearm = r.endedAtZero s.partTime := by
      rw [← Session.rearm_ended, ← hv]; rfl
    refine hleaves (by simp [hst]) (by simp [hst]) ?_
    rw [hv, State.playedOut_zero hst, if_pos hall, hended]
  · refine hleaves (by simp [hst]) (by simp [hst]) ?_
    rw [hv, State.playedOut_zero hst, if_neg (by simp [show (s.session i).allFetched = false from hall])]

/-! ### EDGE (R80, R81) -/

/-- Settles O33, by the session's kind and the present edge. -/
theorem edgeOnlyRises : Obligations.EdgeOnlyRises := by
  intro i segment s hs hopen r run
  have hexec : ∀ {core : State} {a : Answer}, s.serveEdge i segment.toNat = (core, a) →
      run = .next (afterReply core (replyTo .edge (sessionByte i) a.status a.fields)) := fun h => by
    rw [← field32_le32 segment] at h
    exact exec_sessionRequest hs rfl rfl (congrArg some ((State.ifOpen_open hopen _).trans h))
  refine ⟨fun hlive => hexec (if_neg ?_), fun hlive hle => hexec ((if_pos hlive).trans (if_neg (Nat.not_lt.mpr hle))),
    fun hlive hlt => ⟨_, State.handedOver_reexamine _ i _ false, hexec ((if_pos hlive).trans (if_pos hlt))⟩⟩
  simp [show (s.session i).live = false from hlive]

end Sys2Proof.Machine

/-! SUPPORT. What a step can do, move by move: every event is a run of moves, each one a rule's own write of a session's record,
an act of the arbiter, the end of a fetch record, or a write beside them. An invariant that every move keeps is kept by every
step. -/

namespace Sys2Proof.Machine

open Sys2Proof

/-! ### The moves -/

/-- Writes beside the records, the slots and the queue: the control link, the contention code, the hold, a byte credit, the
preemption-used flags, and a skip count that a SKIP notice takes with it (R15, R86). -/
structure Aside (s t : State) : Prop where
  partTime : t.partTime = s.partTime
  settings : t.settings = s.settings
  meter : t.meter = { s.meter with bytes := t.meter.bytes }
  slots : t.arbiter.slots = s.arbiter.slots
  queue : t.arbiter.queue.map (·.session) = s.arbiter.queue.map (·.session)
  session : ∀ i, t.session i = { s.session i with skipCount := (t.session i).skipCount }
  skipCount : ∀ i, (t.session i).skipCount ≤ (s.session i).skipCount

/-- A session run dry at level 0: ENDED when all is fetched, STALLED otherwise (R66, R72). -/
def Session.ranDry (r : Session) (now : PartTime) : Session := if r.allFetched then r.endedAtZero now else r.stalledAtZero now

/-- The record as a completion of `f` with total `total` leaves it (R152). -/
def Session.completed (r : Session) (now : PartTime) (f : FetchRecord) (total : Nat) : Session :=
  ((((({ r with fetch := none } : Session).learn f.rung total).recordCompletion f.rung).advance f.segment).credit
    now).afterThreshold.rearm

/-- The record as the entry into FAULT leaves it (R163). -/
def Session.failed (r : Session) (now : PartTime) : Session := (({ r with fetch := none } : Session).enter now .fault).rearm

/-- What an event may write of session `i`'s record `r` while its fetch record stands or there is none, rule by rule. -/
inductive Session.Written (s : State) (i : SessionId) (r : Session) : Session → Prop
  /-- PLAY and PAUSE while PRIMING (R73). -/
  | autostart (b : Bool) : Written s i r { r with autostart := b }
  /-- EDGE (R80). -/
  | edge (segment : Nat) (hlive : r.live = true) : Written s i r { r with liveEdge := segment }
  /-- LIMITS (R51). -/
  | limits (cap floor weight : Nat) : Written s i r { r with
      cap := (r.limitsInForce cap floor weight).1, floor := (r.limitsInForce cap floor weight).2.1
      weight := (r.limitsInForce cap floor weight).2.2 }
  /-- An abandonment (R170). -/
  | abandoned (rung : Nat) : Written s i r { r with upHold := 0, rungLimit := some (.exact rung) }
  /-- A retry (R160). -/
  | retried (rung : Nat) (hleft : r.attempts < s.settings.retryLimit) : Written s i r (r.retry rung)
  /-- A skip (R161, R162). -/
  | skipped (segment : Nat) (hlive : r.live = true) (hfetch : r.fetch = none) : Written s i r (r.skip segment)
  /-- The low expiry falls (R67). -/
  | lowFallen (hdue : r.lowExpiry = some s.partTime) : Written s i r { r with lowExpiry := none }
  /-- The refill expiry falls (R68). -/
  | refillFallen (hdue : r.refillExpiry = some s.partTime) : Written s i r { r with refillExpiry := none }
  /-- PLAY at a level above 0 (R73). -/
  | played (hstate : r.state = .primed ∨ r.state = .paused) (hlevel : r.storedLevel ≠ 0) :
      Written s i r (r.movedTo s.partTime .playing)
  /-- PAUSE (R73). -/
  | paused (hstate : r.state = .playing ∨ r.state = .stalled) : Written s i r (r.movedTo s.partTime .paused)
  /-- The stall expiry falls, or PLAY at level 0 (R66, R72). -/
  | ranDry (hstate : r.state ≠ .closed ∨ r.stallExpiry ≠ none) : Written s i r (r.ranDry s.partTime)
  /-- PLAYOUT (R76, R77). -/
  | playedOut (v : Nat) (hv : v ≤ 120000) (hstate : r.takesControl = true) :
      Written s i r ((r.writeLevel s.partTime v).afterThreshold.afterZero s.partTime)
  /-- SEEK (R78, R79). -/
  | sought (segment : Nat) (hopen : r.state ≠ .closed) : Written s i r (r.seekTo s.partTime segment).rearm
  /-- CLOSE (R47). -/
  | shut (hfetch : r.fetch = none) (hqueued : s.isQueued i = false) : Written s i r (r.shut s.partTime)
  /-- OPEN (R45). -/
  | opened (o : OpenRequest) (hclosed : r.state = .closed) (hlen : o.bitrates.length = o.rungCount)
      (hsound : o.acceptable = true) : Written s i r (o.record s.partTime)

/-- A level expiry of a session is armed at the present part time (R27). -/
def State.levelDue (s : State) (i : SessionId) : Prop :=
  (s.session i).stallExpiry = some s.partTime ∨ (s.session i).lowExpiry = some s.partTime ∨
    (s.session i).refillExpiry = some s.partTime

/-- The moves of which events are made. -/
inductive Move : State → State → Prop
  /-- A write beside records, slots and queue. -/
  | aside {s t : State} (h : Aside s t) : Move s t
  /-- Part time advances with no level expiry left behind (R25, R27). -/
  | tick (s : State) (h : ∀ i, ¬ s.levelDue i) : Move s s.tick
  /-- The settings are replaced, the number of slots only where no open session holds a record (R176, R179). -/
  | settings (s : State) (c : Settings) (hrange : c.inRange)
      (hpool : c.slotCount ≠ s.settings.slotCount → ∀ i, (s.session i).fetch = none ∨ (s.session i).state = .closed) :
      Move s (s.setSettings c)
  /-- The window ends (R83, R88). -/
  | window (s : State) : Move s (s.setMeter
      ((s.meter.endWindow s.settings s.contention.accepted s.partTime).armWindow s.settings s.partTime))
  /-- The estimator is cleared (R101). -/
  | clearEstimator (s : State) : Move s (s.setMeter s.meter.clearEstimator)
  /-- A session that wants a fetch joins the queue (R130). -/
  | append (s : State) (i : SessionId) (hwants : s.wants i = true) (hqueued : s.isQueued i = false) : Move s (s.appendEntry i)
  /-- An entry leaves the queue (R131). -/
  | remove (s : State) (i : SessionId) : Move s (s.removeEntry i)
  /-- A waiting session is granted a free slot (R128, R145). -/
  | grant (s : State) (i : SessionId) (k : SlotId) (hqueued : s.isQueued i = true) (hfree : s.freeSlot = some k) :
      Move s ((s.removeEntry i).createRecord i k)
  /-- A record ends (R157). -/
  | ended (s : State) (i : SessionId) (f : FetchRecord) (why : Option CancelReason) (hf : (s.session i).fetch = some f) :
      Move s (s.endRecord i why)
  /-- A record ends and its session, which still wants a fetch, waits at the head (R140). -/
  | displaced (s : State) (i : SessionId) (f : FetchRecord) (why : Option CancelReason) (hf : (s.session i).fetch = some f)
      (hwants : (s.endRecord i why).wants i = true) : Move s ((s.endRecord i why).prependEntry i)
  /-- A record ends with a completion (R152). -/
  | completed (s : State) (i : SessionId) (f : FetchRecord) (total : Nat) (hf : (s.session i).fetch = some f) :
      Move s ((s.endRecord i none).setSession i ((s.session i).completed s.partTime f total))
  /-- A record ends with its session in FAULT (R163). -/
  | failed (s : State) (i : SessionId) (f : FetchRecord) (why : Option CancelReason) (hf : (s.session i).fetch = some f) :
      Move s ((s.endRecord i why).setSession i ((s.session i).failed s.partTime))
  /-- An ORDERED record becomes ACTIVE (R87, R149, R150). -/
  | activated (s : State) (i : SessionId) (f : FetchRecord) (expected : Nat) (expiry : PartTime)
      (hf : (s.session i).fetch = some f) (hstate : f.state = .ordered) :
      Move s ((s.setFetch i { f with expected := expected, activityExpiry := expiry, state := .active }).setMeter
        (s.meter.activeUp s.partTime))
  /-- A record's byte count rises (R150). -/
  | received (s : State) (i : SessionId) (f : FetchRecord) (received expected : Nat) (expiry : PartTime)
      (hf : (s.session i).fetch = some f) :
      Move s (s.setFetch i { f with received := received, expected := expected, activityExpiry := expiry })
  /-- A rule writes a session's record. -/
  | written (s : State) (i : SessionId) (r : Session) (h : Session.Written s i (s.session i) r) : Move s (s.setSession i r)

/-- Any number of moves, one after another. -/
def Moves : State → State → Prop := Relation.ReflTransGen Move

/-! ### Writes aside -/

theorem Aside.refl (s : State) : Aside s s := ⟨rfl, rfl, rfl, rfl, rfl, fun _ => rfl, fun _ => le_rfl⟩

theorem Aside.setLink (s : State) (l : ControlLink) : Aside s (s.setLink l) :=
  ⟨rfl, rfl, rfl, rfl, rfl, fun _ => rfl, fun _ => le_rfl⟩

theorem Aside.setContention (s : State) (c : ContentionInput) : Aside s (s.setContention c) :=
  ⟨rfl, rfl, rfl, rfl, rfl, fun _ => rfl, fun _ => le_rfl⟩

theorem Aside.creditBytes (s : State) (n : Nat) : Aside s (s.creditBytes n) :=
  ⟨rfl, rfl, rfl, rfl, rfl, fun _ => rfl, fun _ => le_rfl⟩

theorem Aside.setHold (s : State) (b : Bool) : Aside s (s.setArbiter { s.arbiter with hold := b }) :=
  ⟨rfl, rfl, rfl, rfl, rfl, fun _ => rfl, fun _ => le_rfl⟩

theorem Aside.noteDone (s before : State) (i : SessionId) (f : FetchRecord) : Aside s (s.noteDone before i f) := by
  unfold State.noteDone
  split
  · exact ⟨rfl, rfl, rfl, rfl, rfl, fun _ => rfl, fun _ => le_rfl⟩
  · exact .refl s

theorem Aside.markPreemptionUsed (s : State) (i : SessionId) : Aside s (s.markPreemptionUsed i) := by
  refine ⟨rfl, rfl, rfl, rfl, ?_, fun _ => rfl, fun _ => le_rfl⟩
  rw [State.markPreemptionUsed, State.setArbiter_arbiter, List.map_map]
  refine List.map_congr_left fun e _ => ?_
  dsimp only [Function.comp]
  split <;> rfl

/-- A session's pending set beside its record. -/
theorem Aside.withControl (s : State) (i : SessionId) (r : Session) (n : NoticeSet) :
    Aside (s.setSession i r) (s.withControl i r n) := ⟨rfl, rfl, rfl, rfl, rfl, fun _ => rfl, fun _ => le_rfl⟩

theorem State.takeTurn_skipCount {s : State} {i : SessionId} {turn : NoticeTurn} (h : s.firstNotice i = some turn)
    (j : SessionId) : ((s.takeTurn i turn).session j).skipCount ≤ (s.session j).skipCount := by
  have hturn : turn.skipCount ≤ (s.session i).skipCount := by
    unfold State.firstNotice at h
    dsimp only at h
    split at h
    · cases h; exact le_rfl
    split at h
    · cases h; exact le_rfl
    split at h
    · cases h; exact Nat.zero_le _
    split at h
    · cases h; exact le_rfl
    · split_ifs at h <;> cases h <;> exact le_rfl
  rw [show (s.takeTurn i turn).session j = _ from Four.get_set _ _ _ _]
  split
  · next hj => subst hj; exact hturn
  · exact le_rfl

/-- The transmitter's choice lowers no skip count but to 0 (R15). -/
theorem State.chooseFrame_skipCount (s : State) (i : SessionId) :
    (s.chooseFrame.session i).skipCount ≤ (s.session i).skipCount := by
  obtain ⟨r, _, _, h⟩ | ⟨_, _, h⟩ | ⟨_, _, h⟩ := s.chooseFrame_cases <;> rw [h]
  · exact le_rfl
  · obtain ⟨_, h⟩ | ⟨_, h⟩ | ⟨j, turn, _, ht, h⟩ := s.chooseNotice_cases <;> rw [h]
    · exact le_rfl
    · exact State.takeTurn_skipCount ht i

theorem Aside.chooseFrame (s : State) : Aside s s.chooseFrame := by
  have ho := s.chooseFrame_only
  exact ⟨ho.partTime, ho.settings, by rw [ho.meter], by rw [ho.arbiter], by rw [ho.arbiter], ho.session,
    s.chooseFrame_skipCount⟩

theorem Aside.leaveIdle (s : State) : Aside s s.leaveIdle := by
  by_cases h : s.link.tx = .idle
  · rw [s.leaveIdle_idle h]; exact .chooseFrame s
  · rw [s.leaveIdle_sending h]; exact .refl s

end Sys2Proof.Machine

/-! SUPPORT. Every event is a run of moves: the acts of the arbiter, the owners' services, the expiries, the link. -/

namespace Sys2Proof.Machine

open Sys2Proof

/-! ### Runs of moves -/

namespace Moves

variable {s t u : State}

theorem refl (s : State) : Moves s s := Relation.ReflTransGen.refl

theorem trans (h : Moves s t) (k : Moves t u) : Moves s u := Relation.ReflTransGen.trans h k

theorem step (h : Moves s t) (k : Move t u) : Moves s u := h.tail k

theorem aside (h : Moves s t) (k : Aside t u) : Moves s u := h.step (.aside k)

theorem ite {c : Prop} [Decidable c] (h : Moves s t) (k : Moves s u) : Moves s (if c then t else u) := by
  split <;> assumption

theorem foldl {α : Type} {f : State → α → State} (hf : ∀ t a, Moves t (f t a)) (l : List α) (s : State) :
    Moves s (l.foldl f s) := by
  induction l generalizing s with
  | nil => exact refl s
  | cons a l ih => exact (hf s a).trans (ih _)

theorem setLink (h : Moves s t) (l : ControlLink) : Moves s (t.setLink l) := h.aside (.setLink t l)

theorem leaveIdle (h : Moves s t) : Moves s t.leaveIdle := h.aside (.leaveIdle t)

theorem removeEntry (h : Moves s t) (i : SessionId) : Moves s (t.removeEntry i) := h.step (.remove t i)

theorem setSession (h : Moves s t) {i : SessionId} {r : Session} (hr : Session.Written t i (t.session i) r) :
    Moves s (t.setSession i r) := h.step (.written t i r hr)

/-- A record written with what is raised for its session (R14). -/
theorem withControl (h : Moves s t) {i : SessionId} {r : Session} (hr : Session.Written t i (t.session i) r)
    (n : NoticeSet) : Moves s (t.withControl i r n) := (h.setSession hr).aside (.withControl t i r n)

theorem endRecord (h : Moves s t) (i : SessionId) (why : Option CancelReason) : Moves s (t.endRecord i why) := by
  cases hf : (t.session i).fetch with
  | none => rwa [State.endRecord_none _ _ _ hf]
  | some f => exact h.step (.ended t i f why hf)

/-! ### The arbiter (R128 to R141) -/

theorem grantUpTo (n : Nat) (h : Moves s t) : Moves s (t.grantUpTo n) := by
  induction n generalizing t with
  | zero => exact h
  | succ n ih =>
    rw [State.grantUpTo]
    split
    · next u hu =>
      obtain ⟨_, k, i, hk, hi, rfl⟩ := State.grantOnce_eq_some hu
      exact ih (h.step (.grant t i k (State.isQueued_of_selectEntry hi) hk))
    · exact h

theorem grantAll (h : Moves s t) : Moves s t.grantAll := h.grantUpTo _

end Moves

/-- The slot of least age is one of those compared (R140). -/
theorem latestSlot_mem {age : SlotId → Nat} {ks : List SlotId} {k : SlotId} (h : latestSlot age ks = some k) : k ∈ ks := by
  have hfold : ∀ (l : List SlotId) (best : Option SlotId), (∀ b, best = some b → b ∈ ks) → (∀ j ∈ l, j ∈ ks) →
      ∀ b, l.foldl (fun best k => match best with
        | none => some k
        | some b => if age k ≤ age b then some k else some b) best = some b → b ∈ ks := by
    intro l
    induction l with
    | nil => exact fun best hb _ b hbest => hb b hbest
    | cons j l ih =>
      intro best hb hl
      refine ih _ (fun b hbest => ?_) fun x hx => hl x (List.mem_cons_of_mem _ hx)
      have hj := hl j List.mem_cons_self
      cases best with
      | none => cases hbest; exact hj
      | some c =>
        dsimp only at hbest
        split at hbest
        · cases hbest; exact hj
        · cases hbest; exact hb b rfl
  exact hfold ks none nofun (fun _ h => h) k h

/-- A session that loses its slot holds a record (R139). -/
theorem State.preemptionVictim_fetch {s : State} {i victim : SessionId} (h : s.preemptionVictim i = some victim) :
    ∃ f, (s.session victim).fetch = some f := by
  unfold State.preemptionVictim at h
  split at h
  · obtain ⟨k, hk, hvictim⟩ := Option.bind_eq_some_iff.mp h
    obtain ⟨holder, hholder, rfl⟩ := Option.map_eq_some_iff.mp hvictim
    have hqualifies := (List.mem_filter.mp (latestSlot_mem hk)).2
    simp only [State.slotQualifies, hholder, Bool.and_eq_true] at hqualifies
    cases hf : (s.session holder.session).fetch with
    | none => simp [hf] at hqualifies
    | some f => exact ⟨f, rfl⟩
  · cases h

namespace Moves

variable {s t : State}

theorem preempt (h : Moves s t) {i victim : SessionId} {f : FetchRecord} (hf : (t.session victim).fetch = some f) :
    Moves s (t.preempt i victim) := by
  have hmarked : Moves s (t.markPreemptionUsed i) := h.aside (.markPreemptionUsed t i)
  unfold State.preempt
  refine grantAll ?_
  split
  · next hwants => exact hmarked.step (.displaced _ victim f _ hf hwants)
  · exact hmarked.step (.ended _ victim f _ hf)

theorem considerPreemption (h : Moves s t) (i : SessionId) : Moves s (t.considerPreemption i) := by
  unfold State.considerPreemption
  split
  · next victim hvictim =>
    obtain ⟨f, hf⟩ := State.preemptionVictim_fetch hvictim
    exact h.preempt hf
  · exact h

theorem considerAll (h : Moves s t) : Moves s t.considerAll :=
  h.trans (foldl (fun u i => (refl u).considerPreemption i) _ t)

theorem appendIfJoins (h : Moves s t) (i : SessionId) : Moves s (t.appendIfJoins i) := by
  unfold State.appendIfJoins State.joins
  split
  · next hj =>
    obtain ⟨hwants, hqueued⟩ := Bool.and_eq_true_iff.mp hj
    exact h.step (.append t i hwants (by simpa using hqueued))
  · exact h

theorem reexamine (h : Moves s t) (i : SessionId) (wasUrgent freed : Bool) : Moves s (t.reexamine i wasUrgent freed) := by
  have happend := h.appendIfJoins i
  unfold State.appendIfJoins at happend
  unfold State.reexamine
  split
  · next hj =>
    rw [if_pos hj] at happend
    exact ite (happend.grantAll.considerPreemption i) happend.grantAll
  · have h1 : Moves s (if t.isQueued i && !t.wants i then t.removeEntry i else t) := ite (h.removeEntry i) h
    have h2 := ite (c := freed = true) h1.grantAll h1
    exact ite (h2.considerPreemption i) h2

/-- A session's record written with its expiries rearmed, and the arbiter handed the session. -/
theorem settle (h : Moves s t) {u : State} {i : SessionId} (hu : Moves t (u.rearm i)) (wasUrgent freed : Bool) :
    Moves s (u.settle i wasUrgent freed) := (h.trans hu).reexamine i wasUrgent freed

end Moves

/-! ### Playing, level and state (ch. 4) -/

/-- A session at level 0 run dry. -/
theorem Moves.runDry (s : State) (i : SessionId) (h : (s.session i).state ≠ .closed ∨ (s.session i).stallExpiry ≠ none) :
    Moves s (((s.updSession i fun r => r.writeLevel s.partTime 0).runDry i).rearm i) := by
  have hdry := Session.Written.ranDry (s := s) (i := i) h
  unfold Session.ranDry at hdry
  rw [State.rearm_runDry_zero]
  split
  · next hall =>
    rw [if_pos hall] at hdry
    exact (Moves.refl s).setSession hdry
  · next hall =>
    rw [if_neg hall] at hdry
    exact (Moves.refl s).withControl hdry _

theorem Moves.startPlaying (s : State) {i : SessionId}
    (h : (s.session i).state = .primed ∨ (s.session i).state = .paused) : Moves s (s.startPlaying i) := by
  unfold State.startPlaying
  split
  · refine (Moves.refl s).settle (Moves.runDry s i (.inl fun hclosed => ?_)) _ false
    simp [hclosed] at h
  · next hlevel =>
    have hstored : (s.session i).storedLevel ≠ 0 := fun hzero => hlevel ((State.level_primed_paused h).trans hzero)
    rw [State.settle, State.playControl_above h hlevel, State.playControl_moves h (by simp [Session.stallsOnPlay, hstored]),
      if_neg hstored]
    exact ((Moves.refl s).setSession (.played h hstored)).reexamine i _ false

theorem Moves.stopPlaying (s : State) {i : SessionId}
    (h : (s.session i).state = .playing ∨ (s.session i).state = .stalled) : Moves s (s.stopPlaying i) := by
  rw [State.stopPlaying_eq h, State.pausedAlone_moves h]
  exact ((Moves.refl s).setSession (.paused h)).reexamine i _ false

theorem State.playOne_moves {s t : State} {i : SessionId} (h : s.playOne i = some t) : Moves s t := by
  unfold State.playOne at h
  split at h <;> cases h
  case h_1 => exact (Moves.refl s).setSession (.autostart true)
  case h_2 hst => exact .startPlaying s (.inl hst)
  case h_4 hst => exact .startPlaying s (.inr hst)
  case h_3 | h_5 => exact .refl s

theorem State.pauseOne_moves {s t : State} {i : SessionId} (h : s.pauseOne i = some t) : Moves s t := by
  unfold State.pauseOne at h
  split at h <;> cases h
  case h_1 => exact (Moves.refl s).setSession (.autostart false)
  case h_3 hst => exact .stopPlaying s (.inl hst)
  case h_5 hst => exact .stopPlaying s (.inr hst)
  case h_2 | h_4 => exact .refl s

theorem State.servePlayout_moves (s : State) (i : SessionId) (level : Nat) : Moves s (s.servePlayout i level).1 := by
  cases h : (s.session i).takesControl with
  | false => rw [State.servePlayout_refused h]; exact .refl s
  | true =>
    rw [State.servePlayout_taken h, State.playedOut_control]
    exact ((Moves.refl s).withControl (.playedOut _ (Nat.min_le_right _ _) h) _).reexamine i _ false

theorem State.serveEdge_moves (s : State) (i : SessionId) (segment : Nat) : Moves s (s.serveEdge i segment).1 := by
  unfold State.serveEdge
  dsimp only
  split
  · next hlive =>
    split
    · exact ((Moves.refl s).setSession (.edge segment hlive)).reexamine i _ false
    · exact .refl s
  · exact .refl s

theorem State.serveOpen_moves (s : State) (i : SessionId) {o : OpenRequest} (hlen : o.bitrates.length = o.rungCount) :
    Moves s (s.serveOpen i o).1 := by
  unfold State.serveOpen
  split
  · exact .refl s
  · next hclosed =>
    have hclosed : (s.session i).state = .closed := by simpa [Session.isOpen] using hclosed
    split
    · next hsound => exact ((Moves.refl s).setSession (.opened o hclosed hlen hsound)).reexamine i false false
    · exact .refl s

/-! ### The end of a fetch record (ch. 9, ch. 10) -/

theorem State.partTime_endRecord (s : State) (i : SessionId) (why : Option CancelReason) :
    (s.endRecord i why).partTime = s.partTime := ((NoticesOnly.refl s).endRecord i why).partTime

theorem State.session_endRecord_same (s : State) (i : SessionId) (why : Option CancelReason) :
    (s.endRecord i why).session i = { s.session i with fetch := none } := by
  rw [State.session_endRecord, if_pos rfl]

theorem State.serveSeek_moves {s : State} {i : SessionId} (hopen : (s.session i).state ≠ .closed) (segment : Nat) :
    Moves s (s.serveSeek i segment).1 := by
  unfold State.serveSeek
  split
  · exact .refl s
  · have hready : Moves s ((s.endRecord i none).removeEntry i) := ((Moves.refl s).endRecord i none).removeEntry i
    refine hready.settle ?_ _ _
    rw [State.rearm, State.updSession_updSession, ← s.partTime_endRecord i none]
    refine (Moves.refl _).setSession (.sought segment ?_)
    show ((s.endRecord i none).session i).state ≠ .closed
    rwa [State.session_endRecord_same]

theorem Moves.shut (s : State) (i : SessionId) : Moves s (s.shut i) := by
  have hended := s.session_endRecord_same i none
  have hready : Moves s (((s.endRecord i none).removeEntry i).clearNotices i) :=
    (((Moves.refl s).endRecord i none).removeEntry i).setLink _
  have hrecord : ({ ((s.endRecord i none).session i).writeLevel s.partTime 0 with state := .closed } : Session).rearm =
      ((s.endRecord i none).session i).shut (s.endRecord i none).partTime := by
    rw [Session.rearm_of_not_playing (show SessionState.closed ≠ .playing from nofun), hended, s.partTime_endRecord]
    rfl
  have hqueued : ((s.endRecord i none).removeEntry i).isQueued i = false := by
    rw [State.isQueued_removeEntry, bne_self_eq_false, Bool.false_and]
  have hshut : s.shut i = (((s.endRecord i none).removeEntry i).clearNotices i).setSession i
      (((s.endRecord i none).session i).shut (s.endRecord i none).partTime) := congrArg (State.setSession _ i) hrecord
  rw [hshut]
  exact hready.setSession (.shut (show ((s.endRecord i none).session i).fetch = none by rw [hended]) hqueued)

theorem Moves.shutIfOpen (s : State) (i : SessionId) : Moves s (s.shutIfOpen i) := .ite (.shut s i) (.refl s)

theorem State.withControl_setSession (s : State) (i : SessionId) (r r' : Session) (n : NoticeSet) :
    (s.setSession i r).withControl i r' n = s.withControl i r' n := by
  simp only [State.withControl, State.setSession, Four.set_set]

theorem State.rearm_withControl (s : State) (i : SessionId) (r : Session) (n : NoticeSet) :
    (s.withControl i r n).rearm i = s.withControl i r.rearm n := by
  have hnotices : (s.withControl i r n).notices i = n := by rw [State.notices_withControl, if_pos rfl]
  rw [State.rearm, State.updSession, ← State.withControl_keep, State.withControl_withControl, State.session_withControl,
    if_pos rfl, hnotices]

/-- The priming threshold examined and the expiries rearmed after a session's record has been written (R65, R71). -/
theorem State.rearm_examinePriming_setSession (s : State) (i : SessionId) (r : Session) :
    ∃ n, ((s.setSession i r).examinePriming i).rearm i = s.withControl i r.afterThreshold.rearm n := by
  refine ⟨if r.starts then { s.notices i with ready := true } else s.notices i, ?_⟩
  rw [State.examinePriming_control, State.session_setSession_same, State.withControl_setSession, State.rearm_withControl]
  rfl

theorem Moves.complete (s : State) {i : SessionId} {f : FetchRecord} (hf : (s.session i).fetch = some f) (total : Nat) :
    Moves s (s.complete i f total) := by
  have hcredit : Moves s (s.creditBytes (total - f.received)) := (Moves.refl s).aside (.creditBytes s _)
  have hdone := hcredit.step (.completed _ i f total hf)
  generalize hended : (s.creditBytes (total - f.received)).endRecord i none = u at hdone
  have hsession : u.session i = { s.session i with fetch := none } := by rw [← hended, State.session_endRecord_same]; rfl
  obtain ⟨n, hn⟩ := u.rearm_examinePriming_setSession i
    (((((u.session i).learn f.rung total).recordCompletion f.rung).advance f.segment).credit s.partTime)
  have hwritten : Moves s (u.withControl i ((s.session i).completed s.partTime f total) n) :=
    hdone.aside (.withControl u i _ n)
  have hrecord : ({ s.session i with fetch := none } : Session) = u.session i := hsession.symm
  rw [Session.completed, hrecord, ← hn] at hwritten
  have hcomplete : s.complete i f total = (((u.setSession i ((((((u.session i).learn f.rung total).recordCompletion
      f.rung).advance f.segment).credit s.partTime))).examinePriming i).rearm i).reexamine i (s.toldUrgent i) true := by
    rw [State.complete, hended]
    rfl
  rw [hcomplete]
  exact hwritten.reexamine i _ true

theorem Moves.failFetch (s : State) {i : SessionId} {f : FetchRecord} (hf : (s.session i).fetch = some f)
    (why : Option CancelReason) : Moves s (s.failFetch i f why) := by
  have hended : Moves s (s.endRecord i why) := (Moves.refl s).endRecord i why
  have hsession := s.session_endRecord_same i why
  unfold State.failFetch State.handleFailure
  refine Moves.reexamine ?_ i _ true
  dsimp only
  split
  · next hleft => exact hended.setSession (.retried f.rung hleft)
  · split
    · next hlive => exact (hended.setSession (.skipped f.segment hlive (by rw [hsession]))).setLink _
    · have hfault := (Moves.refl s).step (.failed s i f why hf)
      have hrecord : (((s.endRecord i why).session i).enter (s.endRecord i why).partTime .fault).rearm =
          (s.session i).failed s.partTime := by
        rw [hsession, s.partTime_endRecord]
        rfl
      rw [State.enterFault, State.updSession, hrecord]
      exact (hfault.removeEntry i).setLink _

theorem Moves.abandon {s t : State} (h : Moves s t) (i : SessionId) (rung : Nat) : Moves s (t.abandon i rung) :=
  (h.endRecord i _).setSession (.abandoned rung)

theorem Moves.examineAfterProgress {s t : State} (h : Moves s t) (i : SessionId) : Moves s (t.examineAfterProgress i) := by
  unfold State.examineAfterProgress
  split
  · exact h
  · exact (h.abandon i _).reexamine i _ true

theorem Moves.examineAll {s t : State} (h : Moves s t) : Moves s t.examineAll := by
  unfold State.examineAll
  split
  · exact h
  · next first rest _ =>
    have h1 := h.trans (foldl (fun u (a : SessionId × Nat) => (refl u).abandon a.1 a.2) (first :: rest) t)
    exact (h1.trans (foldl (fun u (a : SessionId × Nat) => (refl u).appendIfJoins a.1) (first :: rest) _)).grantAll.considerAll

/-! ### The fetch reports (R148 to R154) -/

theorem State.matchReport_eq_some {s : State} {i : SessionId} {tag : Byte} {f : FetchRecord}
    (h : s.matchReport i tag = some f) : (s.session i).fetch = some f := by
  unfold State.matchReport at h
  split at h
  · next g hg =>
    split at h
    · rw [hg, h]
    · cases h
  · cases h

theorem Moves.activate (s : State) {i : SessionId} {f : FetchRecord} (hf : (s.session i).fetch = some f)
    (hstate : f.state = .ordered) (expected : Nat) (expiry : PartTime) :
    Moves s (s.activate i { f with expected := expected, activityExpiry := expiry }) :=
  (Moves.refl s).step (.activated s i f expected expiry hf hstate)

theorem State.serveStart_moves (s : State) (i : SessionId) (tag : Byte) (size : Nat) :
    Moves s (s.serveStart i tag size).1 := by
  unfold State.serveStart
  split
  · exact .refl s
  · next f hf =>
    split
    · next hstate => exact .activate s (State.matchReport_eq_some hf) hstate _ _
    · exact .refl s

theorem State.takeProgress_moves {s : State} {i : SessionId} {f : FetchRecord} (hf : (s.session i).fetch = some f)
    (count : Nat) : Moves s (s.takeProgress i f count) := by
  have hactive : ∀ {t : State}, Moves s t → (t.session i).fetch = some { f with state := .active } →
      Moves s (if f.received < count then
        (t.advanceReceived i { f with state := .active } count).examineAfterProgress i else t) := fun {t} ht hft =>
    .ite (((ht.aside (.creditBytes t _)).step (.received _ i _ count _ _ hft)).examineAfterProgress i) ht
  unfold State.takeProgress
  cases hstate : f.state with
  | ordered =>
    rw [if_pos rfl]
    refine hactive (.activate s hf hstate _ _) ?_
    show ((s.setFetch i { f with state := .active }).session i).fetch = _
    rw [State.setFetch, State.session_updSession_same]
  | active =>
    rw [if_neg (show ¬ FetchState.active = .ordered from nofun)]
    exact hactive (.refl s) (hf.trans (by rw [← hstate]))

theorem State.serveProgress_moves (s : State) (i : SessionId) (tag : Byte) (count : Nat) :
    Moves s (s.serveProgress i tag count).1 := by
  unfold State.serveProgress
  split
  · exact .refl s
  · next f hf => exact State.takeProgress_moves (State.matchReport_eq_some hf) count

theorem State.serveDone_moves (s : State) (i : SessionId) (tag : Byte) (total : Nat) :
    Moves s (s.serveDone i tag total).1 := by
  unfold State.serveDone
  split
  · exact .refl s
  · next f hf => exact (Moves.complete s (State.matchReport_eq_some hf) _).aside (.noteDone _ s i f)

theorem State.serveFail_moves (s : State) (i : SessionId) (tag : Byte) (reason : Nat) :
    Moves s (s.serveFail i tag reason).1 := by
  unfold State.serveFail
  split
  · exact .refl s
  · next f hf =>
    split
    · exact .failFetch s (State.matchReport_eq_some hf) none
    · exact .refl s

/-! ### The device requests (ch. 8, ch. 11) -/

theorem Margins.clamped_inRange (m : Margins) {k : Code} (hk : k ≠ 7#3) : 32 ≤ m.clamped.at k ∧ m.clamped.at k ≤ 256 := by
  have hclamp : ∀ v, 32 ≤ clamp 32 256 v ∧ clamp 32 256 v ≤ 256 := fun v => ⟨clamp_ge (by decide), clamp_le (by decide)⟩
  have hcode : k.toNat ≤ 6 := by
    have := k.isLt
    have : k.toNat ≠ 7 := fun h => hk (BitVec.eq_of_toNat_eq h)
    omega
  unfold Margins.at
  generalize k.toNat = n at hcode
  match n with
  | 0 | 1 | 2 | 3 | 4 | 5 | 6 => exact hclamp _
  | n + 7 => omega

/-- The settings a CONFIGURE puts in force are in range (R175). -/
theorem ConfigRequest.settings_inRange (c : ConfigRequest) : c.settings.inRange := by
  have hfast : 1 ≤ clamp 1 4 c.fastShift ∧ clamp 1 4 c.fastShift ≤ 4 := ⟨clamp_ge (by decide), clamp_le (by decide)⟩
  obtain ⟨hleast, hmost⟩ := hfast
  have hslow : clamp 1 4 c.fastShift + 1 ≤ 6 := by omega
  simp only [Settings.inRange, ConfigRequest.settings]
  exact ⟨clamp_ge (by decide), clamp_le (by decide), clamp_ge (by decide), clamp_le (by decide), hleast, hmost,
    clamp_ge hslow, clamp_le hslow, fun k => c.margins.clamped_inRange, clamp_ge (by decide), clamp_le (by decide),
    clamp_ge (by decide), clamp_le (by decide), clamp_ge (by decide), clamp_le (by decide), clamp_le (by decide),
    clamp_ge (by decide), clamp_le (by decide)⟩

theorem Settings.default_inRange : Settings.default.inRange := by
  refine ⟨by decide, by decide, by decide, by decide, by decide, by decide, by decide, by decide, by decide, ?_⟩
  decide

theorem State.serveConfigure_moves (s : State) (c : ConfigRequest) : Moves s (s.serveConfigure c).1 := by
  unfold State.serveConfigure
  split
  · exact .refl s
  · next hbusy =>
    refine (Moves.refl s).step (.settings s c.settings c.settings_inRange fun hcount i => .inl ?_)
    simp only [State.configureBusy, State.anyFetch, Bool.and_eq_true, decide_eq_true_eq, not_and, hcount, ne_eq,
      not_false_eq_true, forall_const, List.any_eq_true, not_exists] at hbusy
    simpa [State.hasFetch] using hbusy i i.mem_all

theorem Moves.shutAll (s : State) : Moves s (Idx4.all.foldl State.shutIfOpen s) := .foldl .shutIfOpen _ s

theorem State.state_shutIfOpen (s : State) (i j : SessionId) :
    ((s.shutIfOpen i).session j).state = if j = i then .closed else (s.session j).state := by
  have hother : j ≠ i → (s.shut i).session j = s.session j := fun h => by
    unfold State.shut
    rw [State.session_updSession, if_neg h]
    show (s.endRecord i none).session j = _
    rw [State.session_endRecord, if_neg h]
  unfold State.shutIfOpen
  by_cases hj : j = i
  · subst hj
    rw [if_pos rfl]
    split
    · unfold State.shut
      rw [State.session_updSession_same]
      rfl
    · next hnot => simpa [Session.isOpen] using hnot
  · rw [if_neg hj]
    split
    · rw [hother hj]
    · rfl

/-- RESET of scope 1 leaves every session closed (R178). -/
theorem State.state_serveResetSessions (s : State) (i : SessionId) : (s.serveResetSessions.1.session i).state = .closed := by
  rw [State.serveResetSessions, (State.grantAll_only _).state]
  simp only [Idx4.all, List.foldl_cons, List.foldl_nil, State.state_shutIfOpen]
  cases i <;> rfl

theorem State.serveReset_moves (s : State) (scope : Nat) : Moves s (s.serveReset scope).1 := by
  have hsessions : Moves s s.serveResetSessions.1 := (Moves.shutAll s).grantAll
  unfold State.serveReset
  split
  · exact hsessions
  · split
    · have hclosed := s.state_serveResetSessions
      unfold State.serveResetAll
      generalize s.serveResetSessions.1 = u at hsessions hclosed ⊢
      have hdefault := (hsessions.step (.clearEstimator u)).step
        (.settings _ Settings.default Settings.default_inRange fun _ i => .inr (hclosed i))
      exact ((hdefault.aside (.setHold _ false)).grantAll).setLink _
    · exact .refl s

theorem State.serveGrantHold_moves (s : State) (value : Nat) : Moves s (s.serveGrantHold value).1 := by
  unfold State.serveGrantHold State.serveHold State.serveRelease
  split
  · exact (Moves.refl s).aside (.setHold s true)
  · split
    · split
      · exact ((Moves.refl s).aside (.setHold s false)).grantAll.considerAll
      · exact .refl s
    · exact .refl s

/-! ### Serving a request (R8, R9, R38) -/

theorem answerOne_moves {s : State} {r : Option State} (h : ∀ t, r = some t → Moves s t) : Moves s (answerOne s r).1 := by
  cases r with
  | none => exact .refl s
  | some t => exact h t rfl

theorem State.broadcast_moves (s : State) {one : State → SessionId → Option State}
    (h : ∀ t i u, one t i = some u → Moves t u) : Moves s (s.broadcast one).1 := by
  have hturn : ∀ (l : List SessionId) (acc : State × Byte), Moves acc.1 (l.foldl (broadcastTurn one) acc).1 := by
    intro l
    induction l with
    | nil => exact fun acc => .refl acc.1
    | cons i l ih =>
      intro acc
      refine Moves.trans ?_ (ih (broadcastTurn one acc i))
      unfold broadcastTurn
      split
      · next t ht => exact h _ _ _ ht
      · exact .refl acc.1
  exact hturn Idx4.all (s, 0#8)

theorem State.ifOpen_moves {s : State} (i : SessionId) {a : State × Answer}
    (h : (s.session i).state ≠ .closed → Moves s a.1) : Moves s (s.ifOpen i a).1 := by
  unfold State.ifOpen
  split
  · next hopen => exact h ((Session.isOpen_iff _).mp hopen)
  · exact .refl s

theorem OpenRequest.ofPayload_bitrates_length (p : List Byte) :
    (OpenRequest.ofPayload p).bitrates.length = (OpenRequest.ofPayload p).rungCount := by
  simp [OpenRequest.ofPayload]

theorem State.serveDevice_moves {s : State} {k : ReqKind} {p : List Byte} {r : State × Answer}
    (h : s.serveDevice k p = some r) : Moves s r.1 := by
  cases k <;> cases h
  case configure => exact s.serveConfigure_moves _
  case reset => exact s.serveReset_moves _
  case grantHold => exact s.serveGrantHold_moves _
  case hello | queryLink | history => exact .refl s

theorem State.serveSession_moves {s : State} {k : ReqKind} {i : SessionId} {p : List Byte} {r : State × Answer}
    (h : s.serveSession k i p = some r) : Moves s r.1 := by
  cases k <;> cases h
  case openSession => exact s.serveOpen_moves i (OpenRequest.ofPayload_bitrates_length p)
  case querySession => exact .refl s
  all_goals refine State.ifOpen_moves i fun hopen => ?_
  case closeSession => exact .ite (Moves.shut s i).grantAll (Moves.shut s i)
  case play => exact answerOne_moves fun _ => State.playOne_moves
  case pause => exact answerOne_moves fun _ => State.pauseOne_moves
  case seek => exact State.serveSeek_moves hopen _
  case limits => exact (Moves.refl s).setSession (.limits _ _ _)
  case playout => exact s.servePlayout_moves i _
  case edge => exact s.serveEdge_moves i _
  case start => exact s.serveStart_moves i _ _
  case progress => exact s.serveProgress_moves i _ _
  case done => exact s.serveDone_moves i _ _
  case fail => exact s.serveFail_moves i _ _

theorem State.serveAll_moves {s : State} {k : ReqKind} {r : State × Answer} (h : s.serveAll k = some r) : Moves s r.1 := by
  cases k <;> cases h
  case play => exact s.broadcast_moves fun _ _ _ => State.playOne_moves
  case pause => exact s.broadcast_moves fun _ _ _ => State.pauseOne_moves

theorem State.serve_moves (s : State) (k : ReqKind) (target : Byte) (p : List Byte) : Moves s (s.serve k target p).1 := by
  have hget : ∀ o : Option (State × Answer), (∀ r, o = some r → Moves s r.1) →
      Moves s (o.getD (s, .refuse .badTarget)).1 := by
    rintro (_ | r) h
    · exact .refl s
    · exact h r rfl
  unfold State.serve
  refine hget _ fun r h => ?_
  split at h
  · exact State.serveDevice_moves h
  · exact State.serveSession_moves h
  · exact State.serveAll_moves h
  · cases h

/-! ### The receiver and the transmitter (ch. 1) -/

theorem State.checkFrame_moves (s : State) (kind target len : Byte) (p : List Byte) (sum : Byte) :
    Moves s (s.checkFrame kind target len p sum) := by
  unfold State.checkFrame
  split
  · exact (Moves.refl s).setLink _
  · split
    · exact (Moves.refl s).setLink _
    · next k _ =>
      split
      · exact (Moves.refl s).setLink _
      · exact (s.serve_moves k target p).setLink _

theorem Moves.transmitReply {s t : State} (h : Moves s t) : Moves s t.transmitReply := by
  unfold State.transmitReply
  split
  · exact h.setLink _
  all_goals exact h

theorem State.completeFrame_moves (s : State) (kind target len : Byte) (p : List Byte) (sum : Byte) :
    Moves s (s.completeFrame kind target len p sum) := by
  have h : Moves s (if s.clearsNext kind target len p sum then s else s.leaveIdle) := .ite (.refl s) (Moves.refl s).leaveIdle
  exact .ite (h.setLink _) (h.trans (State.checkFrame_moves _ _ _ _ _ _))

theorem State.takeByte_moves (s : State) (b : Byte) : Moves s (s.takeByte b) := by
  have hmove : ∀ f, Moves s (s.moveFramer f) := fun _ => (Moves.refl s).setLink _
  unfold State.takeByte
  split
  · exact .ite (hmove _) (.refl s)
  · exact hmove _
  · exact hmove _
  · exact .ite (hmove _) (hmove _)
  · exact .ite (hmove _) (hmove _)
  · next k t l p _ => exact (((Moves.refl s).setLink _).trans (s.resetFramer.completeFrame_moves k t l p b)).transmitReply

theorem State.receive_moves (s : State) (b : Byte) : Moves s (s.receive b) := .ite (s.takeByte_moves b) (.refl s)

theorem Moves.endFrame {s t : State} (h : Moves s t) : Moves s t.endFrame := by
  unfold State.endFrame
  split
  · exact h
  · exact h.setLink _
  · exact h.setLink _

/-! ### The expiries (R27, R66 to R68, R88, R156) -/

theorem State.fallActivity_moves (s : State) (i : SessionId) : Moves s (s.fallActivity i) := by
  unfold State.fallActivity
  split
  · exact .refl s
  · next f hf =>
    exact .ite ((Moves.refl s).leaveIdle.trans (.failFetch _ ((s.leaveIdle_only.fetch i).trans hf) _)) (.refl s)

theorem State.fallStall_moves (s : State) (i : SessionId) : Moves s (s.fallStall i) := by
  unfold State.fallStall
  split
  · next hdue =>
    have harmed : (s.leaveIdle.session i).stallExpiry ≠ none := by
      rw [s.leaveIdle_only.stallExpiry, (isDue_iff _ _).mp hdue]
      nofun
    exact (Moves.refl s).leaveIdle.settle (.runDry _ i (.inr harmed)) _ false
  · exact .refl s

theorem State.fallLow_moves (s : State) (i : SessionId) : Moves s (s.fallLow i) := by
  have ho := s.leaveIdle_only
  unfold State.fallLow
  split
  · next hdue =>
    have hdue : (s.leaveIdle.session i).lowExpiry = some s.leaveIdle.partTime := by
      rw [ho.lowExpiry, ho.partTime, (isDue_iff _ _).mp hdue]
    exact ((Moves.refl s).leaveIdle.setSession (.lowFallen hdue)).reexamine i false false
  · exact .refl s

theorem State.fallRefill_moves (s : State) (i : SessionId) : Moves s (s.fallRefill i) := by
  have ho := s.leaveIdle_only
  unfold State.fallRefill
  split
  · next hdue =>
    have hdue : (s.leaveIdle.session i).refillExpiry = some s.leaveIdle.partTime := by
      rw [ho.refillExpiry, ho.partTime, (isDue_iff _ _).mp hdue]
    exact ((Moves.refl s).leaveIdle.setSession (.refillFallen hdue)).reexamine i _ false
  · exact .refl s

theorem State.fallWindow_moves (s : State) : Moves s s.fallWindow := by
  have hwindow : ∀ t : State, Moves t t.windowNow := fun t =>
    .ite ((Moves.refl t).step (.window t)).examineAll ((Moves.refl t).step (.window t))
  exact .ite ((Moves.refl s).leaveIdle.trans (hwindow _)) (.refl s)

theorem State.fallGap_moves (s : State) : Moves s s.fallGap := .ite ((Moves.refl s).setLink _) (.refl s)

theorem State.fallRdy_moves (s : State) : Moves s s.fallRdy := .ite ((Moves.refl s).setLink _) (.refl s)

theorem State.dealWithSample_moves (s : State) (code : Code) : Moves s (s.dealWithSample code) := by
  have hnoted : Moves s (s.leaveIdle.setContention { s.contention with lastSample := some code }) :=
    (Moves.refl s).leaveIdle.aside (.setContention _ _)
  have haccept : ∀ t : State, Moves t (t.acceptCode code) := fun t =>
    have hcode : Moves t ((t.setContention { t.contention with accepted := code }).raiseLink) :=
      ((Moves.refl t).aside (.setContention t _)).setLink _
    .ite hcode.grantAll.considerAll hcode
  exact .ite (hnoted.trans (haccept _)) hnoted

theorem State.settleSample_moves (s : State) : Moves s s.settleSample := by
  unfold State.settleSample
  split
  · exact .refl s
  · exact ((Moves.refl s).aside (.setContention s _)).trans (State.dealWithSample_moves _ _)

/-! ### The advance (R25, R27) -/

/-- Each level expiry of a record is as it was or clear. -/
def Session.clearsTo (r r' : Session) : Prop :=
  (r'.stallExpiry = r.stallExpiry ∨ r'.stallExpiry = none) ∧ (r'.lowExpiry = r.lowExpiry ∨ r'.lowExpiry = none) ∧
    (r'.refillExpiry = r.refillExpiry ∨ r'.refillExpiry = none)

theorem Session.clearsTo_refl (r : Session) : r.clearsTo r := ⟨.inl rfl, .inl rfl, .inl rfl⟩

/-- No level expiry is armed or moved, at the same part time. -/
structure ClearsExpiries (s t : State) : Prop where
  partTime : t.partTime = s.partTime
  session : ∀ i, (s.session i).clearsTo (t.session i)

namespace ClearsExpiries

variable {s t u : State}

theorem refl (s : State) : ClearsExpiries s s := ⟨rfl, fun _ => Session.clearsTo_refl _⟩

theorem trans (h : ClearsExpiries s t) (k : ClearsExpiries t u) : ClearsExpiries s u := by
  refine ⟨k.partTime.trans h.partTime, fun i => ?_⟩
  obtain ⟨hstall, hlow, hrefill⟩ := h.session i
  obtain ⟨kstall, klow, krefill⟩ := k.session i
  exact ⟨kstall.elim (fun e => e ▸ hstall) .inr, klow.elim (fun e => e ▸ hlow) .inr,
    krefill.elim (fun e => e ▸ hrefill) .inr⟩

theorem ite {c : Prop} [Decidable c] (h : ClearsExpiries s t) (k : ClearsExpiries s u) :
    ClearsExpiries s (if c then t else u) := by split <;> assumption

theorem ofArbiter (h : ArbiterOnly s t) : ClearsExpiries s t :=
  ⟨h.partTime, fun i => by rw [h.session i]; exact Session.clearsTo_refl _⟩

theorem reexamine (h : ClearsExpiries s t) (i : SessionId) (wasUrgent freed : Bool) :
    ClearsExpiries s (t.reexamine i wasUrgent freed) := h.trans (ofArbiter (State.reexamine_only t i wasUrgent freed))

theorem aside (h : ClearsExpiries s t) (k : Aside t u) : ClearsExpiries s u :=
  h.trans ⟨k.partTime, fun i => by rw [k.session i]; exact Session.clearsTo_refl _⟩

theorem leaveIdle (h : ClearsExpiries s t) : ClearsExpiries s t.leaveIdle := h.aside (.leaveIdle t)

theorem setSession (h : ClearsExpiries s t) {i : SessionId} {r : Session} (hr : (t.session i).clearsTo r) :
    ClearsExpiries s (t.setSession i r) := by
  refine h.trans ⟨rfl, fun j => ?_⟩
  rw [State.session_setSession]
  split
  · next hj => subst hj; exact hr
  · exact Session.clearsTo_refl _

theorem endRecord (h : ClearsExpiries s t) (i : SessionId) (why : Option CancelReason) :
    ClearsExpiries s (t.endRecord i why) := by
  refine h.trans ⟨t.partTime_endRecord i why, fun j => ?_⟩
  rw [State.session_endRecord]
  split
  · next hj => subst hj; exact Session.clearsTo_refl _
  · exact Session.clearsTo_refl _

/-- Outside PLAYING a record rearmed has no level expiry (R62 to R65). -/
theorem ofRearm {r q : Session} (h : q.state ≠ .playing) : r.clearsTo q.rearm := by
  rw [Session.rearm_of_not_playing h]
  exact ⟨.inr rfl, .inr rfl, .inr rfl⟩

theorem failFetch (h : ClearsExpiries s t) (i : SessionId) (f : FetchRecord) (why : Option CancelReason) :
    ClearsExpiries s (t.failFetch i f why) := by
  have hended := h.endRecord i why
  unfold State.failFetch State.handleFailure
  refine ClearsExpiries.reexamine ?_ i _ true
  dsimp only
  split
  · exact hended.setSession (Session.clearsTo_refl _)
  · split
    · refine (hended.setSession ?_).aside (.setLink _ _)
      unfold Session.skip Session.recordSkip
      split <;> exact Session.clearsTo_refl _
    · have hfault : (((t.endRecord i why).session i).enter (t.endRecord i why).partTime .fault).state ≠ .playing := by
        unfold Session.enter
        split <;> exact nofun
      exact ((hended.setSession (ofRearm hfault)).trans (ofArbiter (State.removeEntry_only _ i))).aside (.setLink _ _)

theorem fallActivity (h : ClearsExpiries s t) (i : SessionId) : ClearsExpiries s (t.fallActivity i) := by
  unfold State.fallActivity
  split
  · exact h
  · exact .ite (h.leaveIdle.failFetch i _ _) h

/-- A session run dry at level 0 has no level expiry (R66). -/
theorem stallNow (h : ClearsExpiries s t) (i : SessionId) : ClearsExpiries s (t.stallNow i) := by
  rw [State.stallNow_eq]
  refine ClearsExpiries.reexamine ?_ i _ false
  split
  · exact h.setSession ⟨.inr rfl, .inr rfl, .inr rfl⟩
  · exact (h.setSession (r := (t.session i).stalledAtZero t.partTime) ⟨.inr rfl, .inr rfl, .inr rfl⟩).aside
      (.withControl t i _ ((t.notices i).withStall t.partTime))

theorem fallStall (h : ClearsExpiries s t) (i : SessionId) : ClearsExpiries s (t.fallStall i) :=
  .ite (h.leaveIdle.stallNow i) h

theorem lowNow (h : ClearsExpiries s t) (i : SessionId) : ClearsExpiries s (t.lowNow i) :=
  (h.setSession (i := i) (r := { t.session i with lowExpiry := none }) ⟨.inl rfl, .inr rfl, .inl rfl⟩).reexamine i false false

theorem refillNow (h : ClearsExpiries s t) (i : SessionId) : ClearsExpiries s (t.refillNow i) :=
  (h.setSession (i := i) (r := { t.session i with refillExpiry := none }) ⟨.inl rfl, .inl rfl, .inr rfl⟩).reexamine i _ false

theorem fallLow (h : ClearsExpiries s t) (i : SessionId) : ClearsExpiries s (t.fallLow i) := .ite (h.leaveIdle.lowNow i) h

theorem fallRefill (h : ClearsExpiries s t) (i : SessionId) : ClearsExpiries s (t.fallRefill i) :=
  .ite (h.leaveIdle.refillNow i) h

/-- An expiry kept or cleared at the same part time does not become due. -/
theorem not_due (h : ClearsExpiries s t) {e e' : Option PartTime} (he : e' = e ∨ e' = none) (hs : e ≠ some s.partTime) :
    e' ≠ some t.partTime := by
  rw [h.partTime]
  rcases he with rfl | rfl
  · exact hs
  · nofun

theorem not_levelDue (h : ClearsExpiries s t) {i : SessionId} (hs : ¬ s.levelDue i) : ¬ t.levelDue i := by
  obtain ⟨hstall, hlow, hrefill⟩ := h.session i
  simp only [State.levelDue, not_or] at hs ⊢
  obtain ⟨nstall, nlow, nrefill⟩ := hs
  exact ⟨h.not_due hstall nstall, h.not_due hlow nlow, h.not_due hrefill nrefill⟩

end ClearsExpiries

/-- A session's own expiries taken, one after another (log 5). -/
def State.takeSession (s : State) (i : SessionId) : State := (((s.fallActivity i).fallStall i).fallRefill i).fallLow i

theorem State.stallExpiry_fallStall (s : State) (i : SessionId) :
    ((s.fallStall i).session i).stallExpiry ≠ some (s.fallStall i).partTime := by
  unfold State.fallStall
  split
  · have hcleared : ((s.leaveIdle.stallNow i).session i).stallExpiry = none := by
      rw [State.stallNow_eq, (State.reexamine_only _ i _ false).session i]
      split
      · rw [show (s.leaveIdle.withSession i _).session i = _ from Four.get_set_same _ _ _]; rfl
      · rw [show (s.leaveIdle.stalledAtZero i).session i = _ from Four.get_set_same _ _ _]; rfl
    rw [hcleared]
    nofun
  · next hnot => exact fun h => hnot ((isDue_iff _ _).mpr h)

theorem State.lowExpiry_fallLow (s : State) (i : SessionId) :
    ((s.fallLow i).session i).lowExpiry ≠ some (s.fallLow i).partTime := by
  unfold State.fallLow
  split
  · have hcleared : ((s.leaveIdle.lowNow i).session i).lowExpiry = none := by
      rw [State.lowNow, (State.reexamine_only _ i _ _).session i, State.session_updSession_same]
    rw [hcleared]
    nofun
  · next hnot => exact fun h => hnot ((isDue_iff _ _).mpr h)

theorem State.refillExpiry_fallRefill (s : State) (i : SessionId) :
    ((s.fallRefill i).session i).refillExpiry ≠ some (s.fallRefill i).partTime := by
  unfold State.fallRefill
  split
  · have hcleared : ((s.leaveIdle.refillNow i).session i).refillExpiry = none := by
      rw [State.refillNow, (State.reexamine_only _ i _ _).session i, State.session_updSession_same]
    rw [hcleared]
    nofun
  · next hnot => exact fun h => hnot ((isDue_iff _ _).mpr h)

/-- A session whose expiries have been taken has none due (R27). -/
theorem State.takeSession_not_levelDue (s : State) (i : SessionId) : ¬ (s.takeSession i).levelDue i := by
  have hlow : ClearsExpiries (((s.fallActivity i).fallStall i).fallRefill i) (s.takeSession i) := (ClearsExpiries.refl _).fallLow i
  have hrefill := ((ClearsExpiries.refl ((s.fallActivity i).fallStall i)).fallRefill i).trans hlow
  obtain ⟨hstall, _⟩ := hrefill.session i
  obtain ⟨_, _, hfill⟩ := hlow.session i
  simp only [State.levelDue, not_or]
  exact ⟨hrefill.not_due hstall (State.stallExpiry_fallStall _ i), State.lowExpiry_fallLow _ i,
    hlow.not_due hfill (State.refillExpiry_fallRefill _ i)⟩

theorem ClearsExpiries.takeSession {s t : State} (h : ClearsExpiries s t) (i : SessionId) :
    ClearsExpiries s (t.takeSession i) := (((h.fallActivity i).fallStall i).fallRefill i).fallLow i

/-- What has been taken of one session stays taken as the others' expiries are. -/
theorem State.foldl_takeSession_not_levelDue (l : List SessionId) (s : State) (i : SessionId)
    (h : i ∈ l ∨ ¬ s.levelDue i) : ¬ (l.foldl State.takeSession s).levelDue i := by
  induction l generalizing s with
  | nil => exact h.resolve_left List.not_mem_nil
  | cons j l ih =>
    refine ih (s.takeSession j) ?_
    obtain hmem | hs := h
    · obtain rfl | hmem := List.mem_cons.mp hmem
      · exact .inr (s.takeSession_not_levelDue i)
      · exact .inl hmem
    · exact .inr (((ClearsExpiries.refl s).takeSession j).not_levelDue hs)

theorem State.takeAllDue_not_levelDue (s : State) (i : SessionId) : ¬ s.takeAllDue.levelDue i :=
  ((ClearsExpiries.refl _).leaveIdle).not_levelDue
    (State.foldl_takeSession_not_levelDue Idx4.all s.fallGap.fallRdy.settleSample.fallWindow i (.inl i.mem_all))

theorem State.takeAllDue_moves (s : State) : Moves s s.takeAllDue := by
  have hbefore : Moves s s.fallGap.fallRdy.settleSample.fallWindow :=
    ((s.fallGap_moves.trans s.fallGap.fallRdy_moves).trans (State.settleSample_moves _)).trans (State.fallWindow_moves _)
  have hsession : ∀ t i, Moves t (State.takeSession t i) := fun t i =>
    (((t.fallActivity_moves i).trans (State.fallStall_moves _ i)).trans (State.fallRefill_moves _ i)).trans
      (State.fallLow_moves _ i)
  exact (hbefore.trans (.foldl hsession Idx4.all _)).leaveIdle

theorem State.advance_moves (s : State) : Moves s s.advance :=
  s.takeAllDue_moves.step (.tick s.takeAllDue s.takeAllDue_not_levelDue)

theorem State.advanceAs_moves (s : State) (how : Advance) : Moves s (s.advanceAs how) := by
  cases how with
  | atOnce cc => exact s.advance_moves.trans (State.dealWithSample_moves _ _)
  | hold cc => exact s.advance_moves.aside (.setContention _ _)
  | settle => exact s.settleSample_moves

/-! ### Every command -/

/-- An event that is no request is a run of moves, or it drives NRST low or releases it (R180). -/
theorem exec_event_moves {s t : State} {cmd : Instr} (hreq : requestOf cmd = none) (h : exec cmd s = .next t) :
    Moves s t ∨ t = s.held ∨ ∃ baudHigh, t = s.release baudHigh := by
  cases cmd <;> cases hreq <;> cases h
  case pinReset => exact .inr (.inl rfl)
  case nrstRelease baudHigh =>
    split
    · exact .inl (.refl s)
    · exact .inr (.inr ⟨baudHigh, rfl⟩)
  case rdyFirstRise => exact .inl (.ite s.fallRdy_moves (.refl s))
  case partTimeAdvance how => exact .inl (.ite (s.advanceAs_moves how) (.refl s))
  case interByteGapExpiry => exact .inl (.ite s.fallGap_moves (.refl s))
  case activityExpiry i => exact .inl (.ite (s.fallActivity_moves i) (.refl s))
  case stallExpiry i => exact .inl (.ite (s.fallStall_moves i) (.refl s))
  case lowExpiry i => exact .inl (.ite (s.fallLow_moves i) (.refl s))
  case refillExpiry i => exact .inl (.ite (s.fallRefill_moves i) (.refl s))
  case windowExpiry => exact .inl (.ite s.fallWindow_moves (.refl s))
  case frameSent => exact .inl (.ite ((Moves.refl s).endFrame.aside (.chooseFrame _)) (.refl s))
  case characterReceived stopHigh b => exact .inl (.ite (s.receive_moves b) (.refl s))

/-- A command is a run of moves, or it drives NRST low or releases it (R180). -/
theorem exec_moves {s t : State} {cmd : Instr} (h : exec cmd s = .next t) :
    Moves s t ∨ t = s.held ∨ ∃ baudHigh, t = s.release baudHigh := by
  cases hreq : requestOf cmd with
  | none => exact exec_event_moves hreq h
  | some request =>
    rw [exec_request hreq] at h
    cases h
    exact .inl (.foldl State.receive_moves _ s)

/-- What every move keeps, and the pins leave, every step keeps. -/
theorem keptByStep_of_moves {inv : State → Prop} (hmove : ∀ s t, inv s → Move s t → inv t) (hheld : ∀ s : State, inv s.held)
    (hrelease : ∀ (s : State) (baudHigh : Bool), inv (s.release baudHigh)) : keptByStep inv := by
  have hmoves : ∀ s t, Moves s t → inv s → inv t := fun s t h hs => by
    induction h with
    | refl => exact hs
    | tail _ k ih => exact hmove _ _ ih k
  intro s t hs hstep
  unfold step at hstep
  split at hstep
  · cases hstep; exact hs
  · next rest _ =>
    have hrest : inv { s with pending := rest } :=
      hmove s _ hs (.aside ⟨rfl, rfl, rfl, rfl, rfl, fun _ => rfl, fun _ => le_rfl⟩)
    obtain h | rfl | ⟨baudHigh, rfl⟩ := exec_moves hstep
    · exact hmoves _ _ h hrest
    · exact hheld _
    · exact hrelease _ baudHigh

end Sys2Proof.Machine

/-! SUPPORT. What a move makes of one session's record and of the part time, and the level expiries that stand over it (R62 to
R65): the first part of O58. -/

namespace Sys2Proof.Machine

open Sys2Proof

/-! ### What a move writes of a record -/

/-- What a move makes of session `i`'s record `r`: beside what the arbiter writes and a skip count lowered, one of the rules. -/
inductive Session.Change (s : State) (i : SessionId) (r : Session) : Session → Prop
  /-- The arbiter's part of the record, or the skip count (R121, R145, R150, R157). -/
  | beside (r' : Session) (h : r' = { r with
      skipCount := r'.skipCount, tagCounter := r'.tagCounter, rungLimit := r'.rungLimit, fetch := r'.fetch })
      (hskip : r'.skipCount ≤ r.skipCount) : Change s i r r'
  /-- A completion (R152). -/
  | completed (f : FetchRecord) (total : Nat) (hf : r.fetch = some f) : Change s i r (r.completed s.partTime f total)
  /-- The entry into FAULT (R163). -/
  | failed (f : FetchRecord) (hf : r.fetch = some f) : Change s i r (r.failed s.partTime)
  /-- A rule's write. -/
  | written (r' : Session) (h : Session.Written s i r r') : Change s i r r'

theorem Session.Change.refl (s : State) (i : SessionId) (r : Session) : Session.Change s i r r := .beside r rfl le_rfl

theorem Session.Change.setSession {s u : State} {i : SessionId} {r : Session} (j : SessionId)
    (hu : ∀ j, j ≠ i → u.session j = s.session j) (h : Session.Change s i (s.session i) r) :
    Session.Change s j (s.session j) ((u.setSession i r).session j) := by
  rw [State.session_setSession]
  split
  · next hj => subst hj; exact h
  · next hj => rw [hu j hj]; exact .refl _ _ _

theorem State.session_endRecord_other (s : State) {i j : SessionId} (why : Option CancelReason) (h : j ≠ i) :
    (s.endRecord i why).session j = s.session j := by rw [State.session_endRecord, if_neg h]

theorem Session.Change.ofArbiter {s t : State} (h : ArbiterOnly s t) (i : SessionId) :
    Session.Change s i (s.session i) (t.session i) := .beside _ (by rw [h.session i]) (by rw [h.session i])

theorem Session.Change.ofEnding (s : State) (i j : SessionId) (why : Option CancelReason) :
    Session.Change s j (s.session j) ((s.endRecord i why).session j) := by
  rw [State.session_endRecord]
  split
  · next hj => subst hj; exact .beside _ rfl le_rfl
  · exact .refl _ _ _

theorem Move.change {s t : State} (h : Move s t) (j : SessionId) : Session.Change s j (s.session j) (t.session j) := by
  cases h with
  | aside h => exact .beside _ (by rw [h.session j]) (h.skipCount j)
  | tick | settings | window | clearEstimator => exact .refl _ _ _
  | append i => exact .refl _ _ _
  | remove i => exact .refl _ _ _
  | grant i k hqueued hfree =>
    exact .ofArbiter ((State.removeEntry_only s i).trans (State.createRecord_only _ i k (State.freeSlot_inPool hfree))) j
  | ended i f why hf => exact .ofEnding s i j why
  | displaced i f why hf hwants => exact .ofEnding s i j why
  | completed i f total hf =>
    exact .setSession j (fun j hj => s.session_endRecord_other _ hj) (.completed f total hf)
  | failed i f why hf => exact .setSession j (fun j hj => s.session_endRecord_other _ hj) (.failed f hf)
  | activated i f expected expiry hf hstate => exact .setSession j (fun _ _ => rfl) (.beside _ rfl le_rfl)
  | received i f received expected expiry hf => exact .setSession j (fun _ _ => rfl) (.beside _ rfl le_rfl)
  | written i r h => exact .setSession j (fun _ _ => rfl) (.written r h)

/-- No move but the advance of part time writes the part time. -/
theorem Move.partTime {s t : State} (h : Move s t) : t.partTime = s.partTime ∨ (t = s.tick ∧ ∀ i, ¬ s.levelDue i) := by
  cases h with
  | aside h => exact .inl h.partTime
  | tick h => exact .inr ⟨rfl, h⟩
  | ended i f why hf => exact .inl (s.partTime_endRecord i why)
  | displaced i f why hf hwants => exact .inl (s.partTime_endRecord i why)
  | completed i f total hf => exact .inl (s.partTime_endRecord i none)
  | failed i f why hf => exact .inl (s.partTime_endRecord i why)
  | _ => exact .inl rfl

/-! ### The level expiries of a record (R62 to R65) -/

/-- The record's part of `ExpiriesMatch`. -/
def Session.expiriesStand (r : Session) : Prop :=
  r.stallExpiry = r.stallDue ∧ (r.lowExpiry = none ∨ r.lowExpiry = r.lowDue) ∧
    (r.refillExpiry = none ∨ r.refillExpiry = r.refillDue)

theorem expiriesMatch_iff (s : State) : ExpiriesMatch s ↔ ∀ i, (s.session i).expiriesStand := Iff.rfl

theorem Session.expiriesStand_rearm (r : Session) : r.rearm.expiriesStand := ⟨rfl, .inr rfl, .inr rfl⟩

/-- With no level expiry armed and none called for, a record outside PLAYING stands. -/
theorem Session.expiriesStand_of_clear {r : Session} (hst : r.state ≠ .playing) (hstall : r.stallExpiry = none)
    (hlow : r.lowExpiry = none) (hrefill : r.refillExpiry = none) : r.expiriesStand := by
  obtain ⟨_, hnone, _⟩ := levelExpiriesArmed r
  exact ⟨hstall.trans (hnone (.inl hst)).symm, .inl hlow, .inl hrefill⟩

theorem Session.expiriesStand_ranDry (r : Session) (now : PartTime) : (r.ranDry now).expiriesStand := by
  unfold Session.ranDry
  split
  · exact expiriesStand_of_clear nofun rfl rfl rfl
  · exact Session.expiriesStand_rearm _

theorem Session.expiriesStand_afterZero (r : Session) (now : PartTime) : (r.afterZero now).expiriesStand := by
  unfold Session.afterZero
  split
  · exact r.expiriesStand_ranDry now
  · exact r.expiriesStand_rearm

theorem Session.Written.expiriesStand {s : State} {i : SessionId} {r r' : Session} (h : Session.Written s i r r')
    (hr : r.expiriesStand) : r'.expiriesStand := by
  cases h with
  | autostart | edge | limits | abandoned | retried => exact hr
  | skipped => unfold Session.skip Session.recordSkip; split <;> exact hr
  | lowFallen => obtain ⟨hstall, _, hrefill⟩ := hr; exact ⟨hstall, .inl rfl, hrefill⟩
  | refillFallen => obtain ⟨hstall, hlow, _⟩ := hr; exact ⟨hstall, hlow, .inl rfl⟩
  | played | paused | sought => exact Session.expiriesStand_rearm _
  | ranDry => exact r.expiriesStand_ranDry _
  | playedOut => exact Session.expiriesStand_afterZero _ _
  | shut | opened => exact Session.expiriesStand_of_clear nofun rfl rfl rfl

theorem Session.Change.expiriesStand {s : State} {i : SessionId} {r r' : Session} (h : Session.Change s i r r')
    (hr : r.expiriesStand) : r'.expiriesStand := by
  cases h with
  | beside r' h => rw [h]; exact hr
  | completed | failed => exact Session.expiriesStand_rearm _
  | written r' h => exact h.expiriesStand hr

/-- The level expiries stand as armed over every step: the first part of O58. -/
theorem expiriesMatch_kept : keptByStep ExpiriesMatch := by
  have hblank : ∀ i, ((Four.const Session.blank).get i).expiriesStand := fun i => by
    rw [Four.get_const]
    exact Session.expiriesStand_of_clear nofun rfl rfl rfl
  exact keptByStep_of_moves (fun s t hs h i => (h.change i).expiriesStand (hs i)) (fun _ => hblank) fun _ _ => hblank

end Sys2Proof.Machine

/-! SUPPORT. A record on its own: the times of its level expiries (R27, R60, R62 to R68), the order of its fields (R39, R41, R44,
R51) and the ranges of its counts (R60, R66, R125, R159, R162), as the writes of a move leave them. -/

namespace Sys2Proof.Machine

open Sys2Proof

/-! ### The times of the level expiries (R27, R60, R62 to R68) -/

/-- The record's part of `ExpiriesInTime`. -/
def Session.inTime (r : Session) (now : PartTime) : Prop :=
  r.state = .playing →
    0 < r.storedLevel ∧ interval r.refTime now ≤ r.storedLevel ∧
    (r.lowExpiry ≠ none → r.markL ≤ r.level now + 1) ∧
    (r.lowExpiry = none → r.lowDue = none ∨ r.level now < r.markL) ∧
    (r.refillExpiry ≠ none → r.markH - r.segmentMs ≤ r.level now) ∧
    (r.refillExpiry = none → r.refillDue = none ∨ r.level now ≤ r.markH - r.segmentMs)

theorem expiriesInTime_iff (s : State) : ExpiriesInTime s ↔ ∀ i, (s.session i).inTime s.partTime := Iff.rfl

theorem Session.inTime_of_not_playing {r : Session} (h : r.state ≠ .playing) (now : PartTime) : r.inTime now :=
  fun hst => absurd hst h

theorem Session.level_of_playing {r : Session} (h : r.state = .playing) (now : PartTime) :
    r.level now = r.storedLevel - interval r.refTime now := if_pos h

/-- The level is never above the stored level (R60). -/
theorem Session.level_le (r : Session) (now : PartTime) : r.level now ≤ r.storedLevel := by
  unfold Session.level
  split
  · exact Nat.sub_le _ _
  · exact le_rfl

/-- An armed low expiry finds the stored level at L or above (R63). -/
theorem Session.lowDue_eq {r : Session} (h : r.lowDue ≠ none) :
    r.markL ≤ r.storedLevel ∧ r.lowDue = some (later r.refTime (r.storedLevel - r.markL + 1)) := by
  unfold Session.lowDue at h ⊢
  split at h
  · next hc => exact ⟨hc.2.2, if_pos hc⟩
  · exact absurd rfl h

/-- An armed refill expiry finds the stored level above H − D (R64). -/
theorem Session.refillDue_eq {r : Session} (h : r.refillDue ≠ none) :
    r.markH - r.segmentMs < r.storedLevel ∧
      r.refillDue = some (later r.refTime (r.storedLevel - (r.markH - r.segmentMs))) := by
  unfold Session.refillDue at h ⊢
  split at h
  · next hc => exact ⟨hc.2, if_pos hc⟩
  · exact absurd rfl h

/-- A record written and rearmed now, PLAYING only above level 0, is in time (R61, R65). -/
theorem Session.inTime_rearm {r : Session} {now : PartTime} (href : r.state = .playing → r.refTime = now)
    (hlevel : r.state = .playing → 0 < r.storedLevel) : r.rearm.inTime now := by
  intro hst
  have hat : r.rearm.level now = r.storedLevel := by
    rw [Session.level_of_playing hst, show r.rearm.refTime = now from href hst, interval_self]
    rfl
  have hzero : interval r.rearm.refTime now = 0 := by rw [show r.rearm.refTime = now from href hst, interval_self]
  rw [hat, hzero]
  refine ⟨hlevel hst, Nat.zero_le _, fun hlow => ?_, fun hlow => .inl hlow, fun hrefill => ?_, fun hrefill => .inl hrefill⟩
  · obtain ⟨hle, _⟩ := Session.lowDue_eq hlow
    exact Nat.le_succ_of_le hle
  · obtain ⟨hlt, _⟩ := Session.refillDue_eq hrefill
    exact Nat.le_of_lt hlt

/-- The part time an expiry is armed at lies its duration after the reference time (R26). -/
theorem interval_of_later_eq {t now : PartTime} {d : Nat} (h : some (later t d) = some now) (hd : d < 2 ^ 32) :
    interval t now = d := by
  rw [← Option.some.inj h, interval_later t hd]

theorem later_interval (t u : PartTime) : later t (interval t u) = u := by
  rw [later, interval, BitVec.ofNat_toNat, BitVec.setWidth_eq]
  bv_omega

/-- An interval below 2^32 − 1 ms grows by 1 as part time advances (R25, R26). -/
theorem interval_succ {t now : PartTime} (h : interval t now < 2 ^ 32 - 1) : interval t (now + 1#32) = interval t now + 1 := by
  have hsplit : now + 1#32 - t = (now - t) + 1#32 := by bv_omega
  have hone : (1#32 : PartTime).toNat = 1 := rfl
  unfold interval at h ⊢
  rw [hsplit, BitVec.toNat_add, hone, Nat.mod_eq_of_lt (by omega)]

section InTime

variable {r : Session} {now : PartTime} (htime : r.inTime now) (hstand : r.expiriesStand) (hmax : r.storedLevel ≤ 120000)
include htime hstand hmax

/-- A fallen low expiry finds the level below L (R67). -/
theorem Session.inTime_lowFallen (hdue : r.lowExpiry = some now) :
    ({ r with lowExpiry := none } : Session).inTime now := by
  intro hst
  obtain ⟨hpos, hpast, _, _, hrefill, hrefillNone⟩ := htime hst
  obtain ⟨_, hlow, _⟩ := hstand
  have harmed : r.lowDue = some now := hdue ▸ (hlow.resolve_left (by simp [hdue])).symm
  obtain ⟨hle, heq⟩ := Session.lowDue_eq (r := r) (by simp [harmed])
  have hfallen := interval_of_later_eq (heq.symm.trans harmed) (by omega)
  have hlevel : ({ r with lowExpiry := none } : Session).level now = r.storedLevel - interval r.refTime now :=
    Session.level_of_playing hst now
  exact ⟨hpos, hpast, fun h => absurd rfl h, fun _ => .inr (by rw [hlevel]; dsimp only; omega), hrefill, hrefillNone⟩

/-- A fallen refill expiry finds the level at H − D (R68). -/
theorem Session.inTime_refillFallen (hdue : r.refillExpiry = some now) :
    ({ r with refillExpiry := none } : Session).inTime now := by
  intro hst
  obtain ⟨hpos, hpast, hlow, hlowNone, _, _⟩ := htime hst
  obtain ⟨_, _, hrefill⟩ := hstand
  have harmed : r.refillDue = some now := hdue ▸ (hrefill.resolve_left (by simp [hdue])).symm
  obtain ⟨hlt, heq⟩ := Session.refillDue_eq (r := r) (by simp [harmed])
  have hfallen := interval_of_later_eq (heq.symm.trans harmed) (by omega)
  have hlevel : ({ r with refillExpiry := none } : Session).level now = r.storedLevel - interval r.refTime now :=
    Session.level_of_playing hst now
  exact ⟨hpos, hpast, hlow, hlowNone, fun h => absurd rfl h, fun _ => .inr (by rw [hlevel]; dsimp only; omega)⟩

/-- With no level expiry due, the level falls by 1 as part time advances and passes none (R27, R60). -/
theorem Session.inTime_tick (hstall : r.stallExpiry ≠ some now) (hlow : r.lowExpiry ≠ some now)
    (hrefill : r.refillExpiry ≠ some now) : r.inTime (now + 1#32) := by
  intro hst
  obtain ⟨hpos, hpast, hlowSet, hlowClear, hrefillSet, hrefillClear⟩ := htime hst
  obtain ⟨estall, elow, erefill⟩ := hstand
  have hnotZero : interval r.refTime now ≠ r.storedLevel := fun h => hstall (by
    obtain ⟨harmed, _⟩ := levelExpiriesArmed r
    rw [estall, harmed hst hpos, ← h]
    exact congrArg some (later_interval _ _))
  have hnext : interval r.refTime (now + 1#32) = interval r.refTime now + 1 := interval_succ (by omega)
  have hlevel := Session.level_of_playing hst now
  have hlevelNext := Session.level_of_playing hst (now + 1#32)
  rw [hnext] at hlevelNext
  refine ⟨hpos, by omega, fun hne => ?_, fun hnone => (hlowClear hnone).imp_right (by omega), fun hne => ?_,
    fun hnone => (hrefillClear hnone).imp_right (by omega)⟩
  · have harmed := elow.resolve_left hne
    obtain ⟨hle, heq⟩ := Session.lowDue_eq (harmed ▸ hne)
    have hnotDue : interval r.refTime now ≠ r.storedLevel - r.markL + 1 := fun h => hlow (by
      rw [harmed, heq, ← h, later_interval])
    have := hlowSet hne
    omega
  · have harmed := erefill.resolve_left hne
    obtain ⟨hlt, heq⟩ := Session.refillDue_eq (harmed ▸ hne)
    have hnotDue : interval r.refTime now ≠ r.storedLevel - (r.markH - r.segmentMs) := fun h => hrefill (by
      rw [harmed, heq, ← h, later_interval])
    have := hrefillSet hne
    omega

end InTime

/-! ### The order of a record's fields (R39, R41, R44, R51) -/

/-- What `Session.inOrder` reads of a record: its bitrates, segment duration, weight, floor, cap and marks. -/
def Session.programme (r : Session) : List Nat × List Nat :=
  (r.ladder.map (·.bitrate), [r.segmentMs, r.weight, r.floor, r.cap, r.markL, r.markT, r.markH, r.markS0])

theorem Session.inOrder_of_programme {r r' : Session} (h : r'.programme = r.programme) (hr : r.inOrder) : r'.inOrder := by
  simp only [Session.programme, Prod.mk.injEq, List.cons.injEq, and_true] at h
  obtain ⟨hladder, hsegment, hweight, hfloor, hcap, hL, hT, hH, hS0⟩ := h
  have hlen : r'.ladder.length = r.ladder.length := by simpa using congrArg List.length hladder
  have hrates : (∀ e ∈ r'.ladder, 32 ≤ e.bitrate ∧ e.bitrate ≤ 60000) ↔
      ∀ e ∈ r.ladder, 32 ≤ e.bitrate ∧ e.bitrate ≤ 60000 := by
    rw [← List.forall_mem_map (f := Rung.bitrate) (P := fun b => 32 ≤ b ∧ b ≤ 60000), hladder, List.forall_mem_map]
  simpa only [Session.inOrder, hlen, hrates, hladder, hsegment, hweight, hfloor, hcap, hL, hT, hH, hS0] using hr

theorem Session.programme_afterThreshold (r : Session) : r.afterThreshold.programme = r.programme := by
  rw [r.afterThreshold_keeps]; rfl

theorem Session.programme_ranDry (r : Session) (now : PartTime) : (r.ranDry now).programme = r.programme := by
  unfold Session.ranDry; split <;> rfl

theorem Session.programme_afterZero (r : Session) (now : PartTime) : (r.afterZero now).programme = r.programme := by
  unfold Session.afterZero
  split
  · exact r.programme_ranDry now
  · rfl

theorem Session.programme_enter (r : Session) (now : PartTime) (st : SessionState) :
    (r.enter now st).programme = r.programme := by
  unfold Session.enter; split <;> rfl

/-- A completion teaches ratios and leaves the bitrates (R104). -/
theorem Session.programme_learn (r : Session) (k total : Nat) : (r.learn k total).programme = r.programme := by
  unfold Session.learn
  split
  · rfl
  · refine Prod.ext ?_ rfl
    refine List.ext_getElem? fun n => ?_
    simp only [Session.programme, List.getElem?_map, List.getElem?_modify]
    cases r.ladder[n]? with
    | none => rfl
    | some e => dsimp only [Option.map_some]; split <;> rfl

theorem Session.programme_recordCompletion (r : Session) (k : Nat) : (r.recordCompletion k).programme = r.programme := by
  unfold Session.recordCompletion; split <;> rfl

theorem Session.programme_completed (r : Session) (now : PartTime) (f : FetchRecord) (total : Nat) :
    (r.completed now f total).programme = r.programme := by
  calc (r.completed now f total).programme
      = (((({ r with fetch := none } : Session).learn f.rung total).recordCompletion f.rung).advance f.segment |>.credit
          now).afterThreshold.programme := rfl
    _ = ((({ r with fetch := none } : Session).learn f.rung total).recordCompletion f.rung).programme :=
        Session.programme_afterThreshold _
    _ = r.programme := (Session.programme_recordCompletion _ _).trans (Session.programme_learn _ _ _)

/-- The values LIMITS puts in force keep their order (R51). -/
theorem Session.inOrder_limits {r : Session} (hr : r.inOrder) (cap floor weight : Nat) : ({ r with
    cap := (r.limitsInForce cap floor weight).1, floor := (r.limitsInForce cap floor weight).2.1
    weight := (r.limitsInForce cap floor weight).2.2 } : Session).inOrder := by
  obtain ⟨h1, h2, h3, h4, h5, h6, _, _, _, _, h11, h12, h13, h14, h15, h16⟩ := hr
  rw [Session.limitsInForce_eq]
  exact ⟨h1, h2, h3, h4, h5, h6, by dsimp only; omega, by dsimp only; omega, Nat.min_le_left _ _, Nat.min_le_left _ _, h11, h12,
    h13, h14, h15, h16⟩

/-- The record of an acceptable OPEN is in order (R39, R43, R44). -/
theorem OpenRequest.record_inOrder {o : OpenRequest} (hlen : o.bitrates.length = o.rungCount) (h : o.acceptable = true)
    (now : PartTime) : (o.record now).inOrder := by
  simp only [OpenRequest.acceptable, Bool.and_eq_true, decide_eq_true_eq, List.all_eq_true] at h
  obtain ⟨⟨⟨⟨hone, height⟩, hrates⟩, hasc⟩, _⟩ := h
  have hladder : (o.record now).ladder = o.bitrates.map fun b => ⟨b, 256, false⟩ := rfl
  have hmap : (o.record now).ladder.map (·.bitrate) = o.bitrates := by rw [hladder, List.map_map]; exact List.map_id' _
  have hcount : (o.record now).ladder.length = o.rungCount := by rw [hladder, List.length_map, hlen]
  have hmax : Config.maxLevel = 120000 := rfl
  have hsegment : ∀ v, 500 ≤ clamp 500 10000 v ∧ clamp 500 10000 v ≤ 10000 := fun v =>
    ⟨clamp_ge (by decide), clamp_le (by decide)⟩
  have hd : 500 ≤ o.inForce.segmentMs ∧ o.inForce.segmentMs ≤ 10000 := hsegment _
  have hweight : ∀ v, 1 ≤ clamp 1 15 v ∧ clamp 1 15 v ≤ 15 := fun v => ⟨clamp_ge (by decide), clamp_le (by decide)⟩
  obtain ⟨hweightGe, hweightLe⟩ := hweight o.weight
  have hL : o.inForce.markL ≤ 60000 := clamp_le (Nat.zero_le _)
  have hbelow : o.inForce.markL + o.inForce.segmentMs ≤ Config.maxLevel := by omega
  have hT : o.inForce.markL + o.inForce.segmentMs ≤ o.inForce.markT ∧ o.inForce.markT ≤ Config.maxLevel :=
    ⟨clamp_ge hbelow, clamp_le hbelow⟩
  have hH : o.inForce.markT ≤ o.inForce.markH ∧ o.inForce.markH ≤ Config.maxLevel := ⟨clamp_ge hT.2, clamp_le hT.2⟩
  have hfits : o.inForce.segmentMs ≤ o.inForce.markH := by omega
  have hS0 : o.inForce.segmentMs ≤ o.inForce.markS0 ∧ o.inForce.markS0 ≤ o.inForce.markH :=
    ⟨clamp_ge hfits, clamp_le hfits⟩
  refine ⟨by rw [hcount]; exact hone, by rw [hcount]; exact height, ?_, by rw [hmap]; exact hasc, hd.1, hd.2,
    hweightGe, hweightLe, clamp_le (Nat.zero_le _), ?_, hL, hT.1, hH.1, hH.2, hS0.1, hS0.2⟩
  · intro e he
    rw [hladder] at he
    obtain ⟨b, hb, rfl⟩ := List.mem_map.mp he
    exact hrates b hb
  · rw [hcount]
    exact clamp_le (Nat.zero_le _)

/-! ### The ranges of a record's counts (R60, R66, R125, R159, R162) -/

/-- The record's part of `CountsInRange`. -/
structure Session.CountsFit (r : Session) : Prop where
  level : r.storedLevel ≤ 120000
  stallCount : r.stallCount ≤ 255
  upHold : r.upHold ≤ 15
  attempts : r.attempts ≤ 7
  skipCount : r.skipCount ≤ 255

/-- A level and a stall count written within their ranges. -/
theorem Session.CountsFit.write {r r' : Session} (h : r.CountsFit)
    (hr' : (r'.upHold, r'.attempts, r'.skipCount) = (r.upHold, r.attempts, r.skipCount)) (hlevel : r'.storedLevel ≤ 120000)
    (hstall : r'.stallCount ≤ 255) : r'.CountsFit := by
  simp only [Prod.mk.injEq] at hr'
  obtain ⟨hup, hatt, hskip⟩ := hr'
  exact ⟨hlevel, hstall, hup ▸ h.upHold, hatt ▸ h.attempts, hskip ▸ h.skipCount⟩

theorem Session.CountsFit.ranDry {r : Session} (h : r.CountsFit) (now : PartTime) : (r.ranDry now).CountsFit := by
  unfold Session.ranDry
  split
  · exact h.write rfl (Nat.zero_le _) h.stallCount
  · exact h.write rfl (Nat.zero_le _) (Nat.min_le_left _ _)

theorem Session.CountsFit.afterThreshold {r : Session} (h : r.CountsFit) : r.afterThreshold.CountsFit := by
  rw [r.afterThreshold_keeps]
  exact h.write rfl h.level h.stallCount

theorem Session.CountsFit.afterZero {r : Session} (h : r.CountsFit) (now : PartTime) : (r.afterZero now).CountsFit := by
  unfold Session.afterZero
  split
  · exact h.ranDry now
  · exact h.write rfl h.level h.stallCount

theorem Session.CountsFit.movedTo {r : Session} (h : r.CountsFit) (now : PartTime) (st : SessionState) :
    (r.movedTo now st).CountsFit := h.write rfl ((r.level_le now).trans h.level) h.stallCount

theorem Session.CountsFit.failed {r : Session} (h : r.CountsFit) (now : PartTime) : (r.failed now).CountsFit := by
  unfold Session.failed Session.enter
  split
  · exact h.write rfl ((Session.level_le _ now).trans h.level) h.stallCount
  · exact h.write rfl h.level h.stallCount

theorem Session.CountsFit.completed {r : Session} (h : r.CountsFit) (now : PartTime) (f : FetchRecord) (total : Nat) :
    (r.completed now f total).CountsFit := by
  have hlearn : (({ r with fetch := none } : Session).learn f.rung total).CountsFit := by
    unfold Session.learn
    split <;> exact h.write rfl h.level h.stallCount
  have hrecord : ((({ r with fetch := none } : Session).learn f.rung total).recordCompletion f.rung).CountsFit := by
    have hone : 1 ≤ 15 := by decide
    unfold Session.recordCompletion
    split
    · exact ⟨hlearn.level, hlearn.stallCount, Nat.min_le_right _ _, hlearn.attempts, hlearn.skipCount⟩
    · exact ⟨hlearn.level, hlearn.stallCount, hone, hlearn.attempts, hlearn.skipCount⟩
  have hcredit : (((({ r with fetch := none } : Session).learn f.rung total).recordCompletion f.rung).advance f.segment
      |>.credit now).CountsFit :=
    ⟨Nat.min_le_right _ _, hrecord.stallCount, hrecord.upHold, Nat.zero_le _, hrecord.skipCount⟩
  have hprimed := hcredit.afterThreshold
  exact hprimed.write rfl hprimed.level hprimed.stallCount

theorem Session.CountsFit.skip {r : Session} (h : r.CountsFit) (segment : Nat) : (r.skip segment).CountsFit := by
  have hone : 1 ≤ 255 := by decide
  unfold Session.skip Session.recordSkip
  split
  · exact ⟨h.level, h.stallCount, h.upHold, Nat.zero_le _, hone⟩
  · exact ⟨h.level, h.stallCount, h.upHold, Nat.zero_le _, Nat.min_le_right _ _⟩

theorem Session.Written.countsFit {s : State} {i : SessionId} {r r' : Session} (h : Session.Written s i r r')
    (hr : r.CountsFit) (hlimit : s.settings.retryLimit ≤ 7) : r'.CountsFit := by
  cases h with
  | autostart | edge | limits | lowFallen | refillFallen => exact hr.write rfl hr.level hr.stallCount
  | abandoned => exact ⟨hr.level, hr.stallCount, Nat.zero_le _, hr.attempts, hr.skipCount⟩
  | retried rung hleft =>
    refine ⟨hr.level, hr.stallCount, hr.upHold, ?_, hr.skipCount⟩
    show r.attempts + 1 ≤ 7
    omega
  | skipped segment => exact hr.skip segment
  | played | paused => exact hr.movedTo _ _
  | ranDry => exact hr.ranDry _
  | playedOut v hv =>
    have hwritten : (r.writeLevel s.partTime v).CountsFit := hr.write rfl hv hr.stallCount
    exact hwritten.afterThreshold.afterZero _
  | sought => exact ⟨Nat.zero_le _, hr.stallCount, Nat.zero_le _, Nat.zero_le _, hr.skipCount⟩
  | shut => exact hr.write rfl (Nat.zero_le _) hr.stallCount
  | opened => exact ⟨Nat.zero_le _, Nat.zero_le _, Nat.zero_le _, Nat.zero_le _, Nat.zero_le _⟩

end Sys2Proof.Machine

/-! SUPPORT. What the writes of a move keep of a session that waits or fetches (R56, R82, R131), and the soundness of every
record over every move (R39, R41, R60, R62 to R68). -/

namespace Sys2Proof.Machine

open Sys2Proof

/-! ### Waiting and fetching, record by record (R56, R82, R131) -/

/-- CLOSED, ENDED or FAULT. -/
def Session.atRest (r : Session) : Prop := r.state = .closed ∨ r.state = .ended ∨ r.state = .fault

/-- The record's part of `WaitsOrFetches`, for a session that waits in the queue or does not. -/
def Session.waits (r : Session) (queued : Bool) : Prop :=
  (queued = true → r.fetch = none) ∧ (r.atRest → r.fetch = none ∧ queued = false) ∧
  (r.allFetched = true → r.fetch = none ∧ queued = false ∧ r.live = false ∧
    ∃ l, r.lastSegment = some l ∧ r.nextSegment = l + 1)

theorem waitsOrFetches_iff (s : State) : WaitsOrFetches s ↔
    (∀ i, (s.session i).waits (s.isQueued i)) ∧ (s.arbiter.queue.map (·.session)).Nodup :=
  ⟨fun ⟨hqueued, hrest, hdone, hnodup⟩ => ⟨fun i => ⟨hqueued i, hrest i, hdone i⟩, hnodup⟩,
    fun ⟨h, hnodup⟩ => ⟨fun i => (h i).1, fun i => (h i).2.1, fun i => (h i).2.2, hnodup⟩⟩

section Waits

variable {r : Session} {queued : Bool}

theorem Session.waits_of_idle (hfetch : r.fetch = none) (hall : r.allFetched = false) : r.waits false :=
  ⟨fun _ => hfetch, fun _ => ⟨hfetch, rfl⟩, by simp [hall]⟩

/-- A session that holds a record does not wait, is not at rest and has segments to come. -/
theorem Session.waits_fetching (h : r.waits queued) {f : FetchRecord} (hf : r.fetch = some f) :
    queued = false ∧ ¬ r.atRest ∧ r.allFetched = false := by
  obtain ⟨hqueued, hrest, hdone⟩ := h
  refine ⟨Bool.eq_false_iff.mpr fun hq => ?_, fun hr => ?_, Bool.eq_false_iff.mpr fun ha => ?_⟩
  · exact absurd (hf.symm.trans (hqueued hq)) nofun
  · obtain ⟨hnone, _⟩ := hrest hr
    exact absurd (hf.symm.trans hnone) nofun
  · obtain ⟨hnone, _⟩ := hdone ha
    exact absurd (hf.symm.trans hnone) nofun

/-- A waiting session is not at rest and has segments to come. -/
theorem Session.waits_queued (h : r.waits true) : r.fetch = none ∧ ¬ r.atRest ∧ r.allFetched = false := by
  obtain ⟨hqueued, hrest, hdone⟩ := h
  refine ⟨hqueued rfl, fun hr => ?_, Bool.eq_false_iff.mpr fun ha => ?_⟩
  · obtain ⟨_, hnot⟩ := hrest hr
    exact absurd hnot nofun
  · obtain ⟨_, hnot, _⟩ := hdone ha
    exact absurd hnot nofun

/-- What a session that is not at rest and has segments to come does is its own choice of one. -/
theorem Session.waits_of_busy (hrest : ¬ r.atRest) (hall : r.allFetched = false) (h : queued = true → r.fetch = none) :
    r.waits queued := ⟨h, fun hr => absurd hr hrest, by simp [hall]⟩

/-- The fields that `Session.waits` reads beside the state. -/
def Session.course (r : Session) : Option FetchRecord × Bool × Bool × Option Nat × Nat :=
  (r.fetch, r.allFetched, r.live, r.lastSegment, r.nextSegment)

/-- A state written, where a session put to rest neither waits nor fetches. -/
theorem Session.waits_moved (h : r.waits queued) {r' : Session} (hcourse : r'.course = r.course)
    (hrest : r'.atRest → r.fetch = none ∧ queued = false) : r'.waits queued := by
  simp only [Session.course, Prod.mk.injEq] at hcourse
  obtain ⟨hfetch, hall, hlive, hlast, hnext⟩ := hcourse
  obtain ⟨hqueued, _, hdone⟩ := h
  unfold Session.waits
  rw [hfetch, hall, hlive, hlast, hnext]
  exact ⟨hqueued, hrest, hdone⟩

theorem Session.course_ranDry (r : Session) (now : PartTime) : (r.ranDry now).course = r.course := by
  unfold Session.ranDry; split <;> rfl

/-- A session run dry is at rest only with everything fetched (R72). -/
theorem Session.waits_ranDry (h : r.waits queued) (now : PartTime) : (r.ranDry now).waits queued := by
  refine Session.waits_moved h (r.course_ranDry now) fun hrest => ?_
  cases hall : r.allFetched with
  | true =>
    obtain ⟨_, _, hdone⟩ := h
    obtain ⟨hfetch, hqueued, _⟩ := hdone hall
    exact ⟨hfetch, hqueued⟩
  | false =>
    rw [Session.ranDry, hall] at hrest
    rcases hrest with h | h | h <;> cases h

/-- The priming threshold puts no session to rest (R71). -/
theorem Session.atRest_afterThreshold (h : r.afterThreshold.atRest) : r.atRest := by
  unfold Session.afterThreshold at h
  split at h
  · unfold Session.started at h
    split at h
    · rcases h with h | h | h <;> · dsimp only at h; split at h <;> cases h
    · rcases h with h | h | h <;> cases h
  · exact h

theorem Session.waits_afterThreshold (h : r.waits queued) : r.afterThreshold.waits queued := by
  refine Session.waits_moved h (by rw [r.afterThreshold_keeps]; rfl) fun hrest => ?_
  obtain ⟨_, hidle, _⟩ := h
  exact hidle (Session.atRest_afterThreshold hrest)

theorem Session.waits_afterZero (h : r.waits queued) (now : PartTime) : (r.afterZero now).waits queued := by
  unfold Session.afterZero
  split
  · exact Session.waits_ranDry h now
  · exact h

/-- A segment skipped leaves a live session with segments to come (R161, R162). -/
theorem Session.waits_skip (h : r.waits queued) (hlive : r.live = true) (segment : Nat) :
    (r.skip segment).waits queued := by
  obtain ⟨hqueued, hrest, hdone⟩ := h
  have hnot : r.allFetched = true → r.live = false := fun hall => by
    obtain ⟨_, _, hvod, _⟩ := hdone hall
    exact hvod
  have hall : r.allFetched = false := Bool.eq_false_iff.mpr fun hall => by simp [hnot hall] at hlive
  have hkept : ({ r with nextSegment := segment + 1, attempts := 0 } : Session).waits queued :=
    ⟨hqueued, hrest, fun h => absurd (h.symm.trans hall) nofun⟩
  unfold Session.skip Session.recordSkip
  split <;> exact hkept

theorem Session.Written.waits {s : State} {i : SessionId} {r' : Session} (h : Session.Written s i r r')
    (hr : r.waits (s.isQueued i)) : r'.waits (s.isQueued i) := by
  cases h with
  | autostart | edge | limits | abandoned | retried | lowFallen | refillFallen => exact hr
  | skipped segment hlive hfetch => exact Session.waits_skip hr hlive segment
  | played | paused => exact Session.waits_moved hr rfl fun hrest => by rcases hrest with h | h | h <;> cases h
  | ranDry => exact Session.waits_ranDry hr _
  | playedOut v hv hstate =>
    exact Session.waits_afterZero (Session.waits_afterThreshold (r := r.writeLevel s.partTime v) hr) _
  | sought =>
    obtain ⟨hqueued, _⟩ := hr
    exact Session.waits_of_busy (fun hrest => by rcases hrest with h | h | h <;> cases h) rfl hqueued
  | shut hfetch hqueued => exact Session.waits_moved hr (Prod.ext hfetch.symm rfl) fun _ => ⟨hfetch, hqueued⟩
  | opened o hclosed =>
    obtain ⟨_, hrest, _⟩ := hr
    obtain ⟨_, hqueued⟩ := hrest (.inl hclosed)
    rw [hqueued]
    exact Session.waits_of_idle rfl rfl

/-- A rule's write leaves the fetch record as it is. -/
theorem Session.Written.fetch {s : State} {i : SessionId} {r' : Session} (h : Session.Written s i r r')
    (hr : r.waits (s.isQueued i)) : r'.fetch = r.fetch := by
  cases h with
  | skipped => unfold Session.skip Session.recordSkip; split <;> rfl
  | ranDry => exact congrArg Prod.fst (r.course_ranDry _)
  | playedOut v =>
    have hzero : ∀ q : Session, (q.afterZero s.partTime).fetch = q.fetch := fun q => by
      unfold Session.afterZero
      split
      · exact congrArg Prod.fst (q.course_ranDry _)
      · rfl
    rw [hzero, Session.afterThreshold_keeps]
    rfl
  | shut hfetch => exact hfetch.symm
  | opened o hclosed =>
    obtain ⟨_, hrest, _⟩ := hr
    obtain ⟨hfetch, _⟩ := hrest (.inl hclosed)
    exact hfetch.symm
  | _ => rfl

theorem Session.course_recordCompletion_learn (r : Session) (f : FetchRecord) (total : Nat) :
    ((({ r with fetch := none } : Session).learn f.rung total).recordCompletion f.rung).course =
      (none, r.allFetched, r.live, r.lastSegment, r.nextSegment) := by
  unfold Session.recordCompletion Session.learn
  split <;> split <;> rfl

theorem Session.fetch_completed (r : Session) (now : PartTime) (f : FetchRecord) (total : Nat) :
    (r.completed now f total).fetch = none := by
  have hended := congrArg Prod.fst (r.course_recordCompletion_learn f total)
  have hthreshold : ∀ q : Session, q.afterThreshold.fetch = q.fetch := fun q => by rw [q.afterThreshold_keeps]
  exact (hthreshold _).trans hended

theorem Session.fetch_failed (r : Session) (now : PartTime) : (r.failed now).fetch = none := by
  unfold Session.failed Session.enter
  split <;> rfl

/-- A completion that leaves nothing to fetch has fetched a VOD session's last segment (R56, R152). -/
theorem Session.waits_completed (h : r.waits queued) {f : FetchRecord} (hf : r.fetch = some f) (now : PartTime)
    (total : Nat) : (r.completed now f total).waits queued := by
  obtain ⟨hqueued, hrest, hall⟩ := Session.waits_fetching h hf
  have hlearned := r.course_recordCompletion_learn f total
  generalize hq : (({ r with fetch := none } : Session).learn f.rung total).recordCompletion f.rung = q at hlearned
  simp only [Session.course, Prod.mk.injEq] at hlearned
  obtain ⟨hfetch, hallQ, hlive, hlast, hnext⟩ := hlearned
  have hcredited : ((q.advance f.segment).credit now).waits queued := by
    refine ⟨fun _ => hfetch, fun _ => ⟨hfetch, hqueued⟩, fun hdone => ⟨hfetch, hqueued, ?_⟩⟩
    have hlastOf : q.live = false ∧ q.lastSegment = some f.segment := by
      have hflag : (q.allFetched || (!q.live && q.lastSegment == some f.segment)) = true := hdone
      simpa [hallQ, hall] using hflag
    obtain ⟨hvod, heq⟩ := hlastOf
    exact ⟨hvod, f.segment, heq, rfl⟩
  have hprimed := Session.waits_afterThreshold hcredited
  rw [Session.completed, hq]
  exact hprimed

theorem Session.waits_failed (h : r.waits queued) {f : FetchRecord} (hf : r.fetch = some f) (now : PartTime) :
    (r.failed now).waits queued := by
  obtain ⟨hqueued, _, hall⟩ := Session.waits_fetching h hf
  rw [hqueued]
  refine Session.waits_of_idle (r.fetch_failed now) ?_
  unfold Session.failed Session.enter
  split <;> exact hall

end Waits

/-! ### The soundness of a record over every move (R39, R41, R60, R62 to R68) -/

/-- Level expiries armed as called for and not passed, fields in order while open, counts in range. -/
structure Session.Sound (r : Session) (now : PartTime) : Prop where
  stand : r.expiriesStand
  inTime : r.inTime now
  inOrder : r.state ≠ .closed → r.inOrder
  counts : r.CountsFit

section Sound

variable {s : State} {i : SessionId} {r r' : Session} {now : PartTime}

theorem Session.programme_skip (r : Session) (segment : Nat) : (r.skip segment).programme = r.programme := by
  unfold Session.skip Session.recordSkip; split <;> rfl

theorem Session.state_skip (r : Session) (segment : Nat) : (r.skip segment).state = r.state := by
  unfold Session.skip Session.recordSkip; split <;> rfl

theorem Session.isOpen_of_stallExpiry (hstand : r.expiriesStand) (h : r.stallExpiry ≠ none) : r.state ≠ .closed :=
  fun hclosed => by
    obtain ⟨hstall, _⟩ := hstand
    obtain ⟨_, hnone, _⟩ := levelExpiriesArmed r
    exact h (hstall.trans (hnone (.inl (by simp [hclosed]))))

theorem Session.Written.inOrder (h : Session.Written s i r r') (hstand : r.expiriesStand)
    (hr : r.state ≠ .closed → r.inOrder) (hopen : r'.state ≠ .closed) : r'.inOrder := by
  cases h with
  | autostart | edge | abandoned | retried | lowFallen | refillFallen => exact Session.inOrder_of_programme rfl (hr hopen)
  | limits => exact Session.inOrder_limits (hr hopen) _ _ _
  | skipped segment => exact Session.inOrder_of_programme (r.programme_skip segment) (hr (r.state_skip segment ▸ hopen))
  | played hstate | paused hstate =>
    exact Session.inOrder_of_programme rfl (hr (by rcases hstate with h | h <;> simp [h]))
  | ranDry hstate =>
    exact Session.inOrder_of_programme (r.programme_ranDry _) (hr (hstate.elim id (Session.isOpen_of_stallExpiry hstand)))
  | playedOut v hv hstate =>
    obtain ⟨hnot, _⟩ := Session.takesControl_eq_true.mp hstate
    exact Session.inOrder_of_programme ((Session.programme_afterZero _ _).trans (Session.programme_afterThreshold _)) (hr hnot)
  | sought segment hnot => exact Session.inOrder_of_programme rfl (hr hnot)
  | shut => exact absurd rfl hopen
  | opened o hclosed hlen hsound => exact OpenRequest.record_inOrder hlen hsound _

theorem Session.ranDry_state_ne (r : Session) (now : PartTime) : (r.ranDry now).state ≠ .playing := by
  unfold Session.ranDry
  split <;> nofun

/-- A session PLAYING above level 0 since now is in time, whatever the zero-level rule makes of it (R65, R72). -/
theorem Session.inTime_afterZero (href : r.refTime = now) : (r.afterZero now).inTime now := by
  unfold Session.afterZero
  split
  · exact Session.inTime_of_not_playing (r.ranDry_state_ne now) now
  · next hzero => exact Session.inTime_rearm (fun _ => href) fun hst => Nat.pos_of_ne_zero fun hl => hzero ⟨hst, hl⟩

theorem Session.Written.inTime (h : Session.Written s i r r') (hr : r.Sound s.partTime) : r'.inTime s.partTime := by
  cases h with
  | autostart | edge | limits | abandoned | retried => exact hr.inTime
  | skipped =>
    unfold Session.skip Session.recordSkip
    split <;> exact hr.inTime
  | lowFallen hdue => exact Session.inTime_lowFallen hr.inTime hr.stand hr.counts.level hdue
  | refillFallen hdue => exact Session.inTime_refillFallen hr.inTime hr.stand hr.counts.level hdue
  | played hstate hlevel =>
    refine Session.inTime_rearm (fun _ => rfl) fun _ => ?_
    have hstored : r.level s.partTime = r.storedLevel := if_neg (by rcases hstate with h | h <;> simp [h])
    exact Nat.pos_of_ne_zero (by dsimp only; rwa [hstored])
  | ranDry => exact Session.inTime_of_not_playing (r.ranDry_state_ne _) _
  | playedOut v => exact Session.inTime_afterZero (by rw [Session.afterThreshold_keeps]; rfl)
  | paused => exact Session.inTime_of_not_playing (r := r.movedTo s.partTime .paused) nofun _
  | sought segment => exact Session.inTime_of_not_playing (r := (r.seekTo s.partTime segment).rearm) nofun _
  | shut => exact Session.inTime_of_not_playing (r := r.shut s.partTime) nofun _
  | opened o => exact Session.inTime_of_not_playing (r := o.record s.partTime) nofun _

theorem Session.Written.sound (h : Session.Written s i r r') (hr : r.Sound s.partTime) (hlimit : s.settings.retryLimit ≤ 7) :
    r'.Sound s.partTime :=
  ⟨h.expiriesStand hr.stand, h.inTime hr, h.inOrder hr.stand hr.inOrder, h.countsFit hr.counts hlimit⟩

/-- A completion credits a segment's duration, which is above 0 (R41, R60). -/
theorem Session.inTime_completed (hr : r.inOrder) (f : FetchRecord) (total : Nat) :
    (r.completed now f total).inTime now := by
  have hprogramme : ((({ r with fetch := none } : Session).learn f.rung total).recordCompletion f.rung).programme =
      r.programme := (Session.programme_recordCompletion _ _).trans (Session.programme_learn _ _ _)
  rw [Session.completed]
  generalize (({ r with fetch := none } : Session).learn f.rung total).recordCompletion f.rung = q at hprogramme
  have hsegment : 500 ≤ q.segmentMs := by
    obtain ⟨_, _, _, _, hmin, _⟩ := Session.inOrder_of_programme hprogramme hr
    exact hmin
  have hcredit : 0 < min (q.level now + q.segmentMs) Config.maxLevel := lt_min (by omega) (by decide)
  exact Session.inTime_rearm (fun _ => by rw [Session.afterThreshold_keeps]; rfl)
    fun _ => by rw [Session.afterThreshold_keeps]; exact hcredit

theorem Session.Sound.completed (hr : r.Sound now) (hopen : r.state ≠ .closed) (f : FetchRecord) (total : Nat) :
    (r.completed now f total).Sound now :=
  ⟨Session.expiriesStand_rearm _, Session.inTime_completed (hr.inOrder hopen) f total,
    fun _ => Session.inOrder_of_programme (r.programme_completed now f total) (hr.inOrder hopen), hr.counts.completed now f total⟩

theorem Session.Sound.failed (hr : r.Sound now) (hopen : r.state ≠ .closed) : (r.failed now).Sound now := by
  refine ⟨Session.expiriesStand_rearm _, Session.inTime_of_not_playing ?_ _, fun _ => ?_, hr.counts.failed now⟩
  · unfold Session.failed Session.enter
    split <;> nofun
  · exact Session.inOrder_of_programme (Session.programme_enter _ now .fault) (hr.inOrder hopen)

theorem Session.Change.sound (h : Session.Change s i r r') (hr : r.Sound s.partTime)
    (hopen : ∀ f, r.fetch = some f → r.state ≠ .closed) (hlimit : s.settings.retryLimit ≤ 7) : r'.Sound s.partTime := by
  obtain ⟨hstand, htime, horder, hcounts⟩ := hr
  cases h with
  | beside r' h hskip =>
    refine ⟨by rw [h]; exact hstand, by rw [h]; exact htime, fun hnot => ?_, ?_⟩
    · rw [h] at hnot ⊢
      exact horder hnot
    · rw [h]
      exact ⟨hcounts.level, hcounts.stallCount, hcounts.upHold, hcounts.attempts, hskip.trans hcounts.skipCount⟩
  | completed f total hf => exact Session.Sound.completed ⟨hstand, htime, horder, hcounts⟩ (hopen f hf) f total
  | failed f hf => exact Session.Sound.failed ⟨hstand, htime, horder, hcounts⟩ (hopen f hf)
  | written r' h => exact h.sound ⟨hstand, htime, horder, hcounts⟩ hlimit

/-- Every record is sound at its part time. -/
def State.recordsSound (s : State) : Prop := ∀ i, (s.session i).Sound s.partTime

theorem Move.recordsSound {t : State} (h : Move s t) (hs : s.recordsSound) (hwaits : WaitsOrFetches s)
    (hlimit : s.settings.retryLimit ≤ 7) : t.recordsSound := by
  intro j
  obtain htime | ⟨rfl, hdue⟩ := h.partTime
  · rw [htime]
    refine (h.change j).sound (hs j) (fun f hf hclosed => ?_) hlimit
    obtain ⟨hnone, _⟩ := hwaits.restNoFetch j (.inl hclosed)
    exact absurd (hf.symm.trans hnone) nofun
  · obtain ⟨hstand, hinTime, horder, hcounts⟩ := hs j
    have hnot := hdue j
    simp only [State.levelDue, not_or] at hnot
    obtain ⟨hstall, hlow, hrefill⟩ := hnot
    exact ⟨hstand, Session.inTime_tick hinTime hstand hcounts.level hstall hlow hrefill, horder, hcounts⟩

end Sound

end Sys2Proof.Machine

/-! SUPPORT. What the moves keep of the queue, the slots, the settings and the meter (R82, R85, R90, R93, R127, R131, R143,
11 §11.1), and the level expiries kept (O58). -/

namespace Sys2Proof.Machine

open Sys2Proof

/-! ### The queue (R56, R131) -/

theorem State.isQueued_iff_mem (s : State) (i : SessionId) :
    s.isQueued i = true ↔ i ∈ s.arbiter.queue.map (·.session) := by rw [State.isQueued_iff, List.mem_map]

theorem State.isQueued_congr {s t : State} (h : t.arbiter.queue.map (·.session) = s.arbiter.queue.map (·.session))
    (i : SessionId) : t.isQueued i = s.isQueued i := by
  rw [Bool.eq_iff_iff, State.isQueued_iff_mem, State.isQueued_iff_mem, h]

/-- A session that wants a fetch has none, is not at rest, and its next segment is available (R129). -/
theorem State.wants_imp {s : State} {i : SessionId} (h : s.wants i = true) :
    (s.session i).fetch = none ∧ ¬ (s.session i).atRest ∧ (s.session i).segmentAvailable = true := by
  simp only [State.wants, Bool.and_eq_true, Option.isNone_iff_eq_none] at h
  obtain ⟨⟨hstate, hfetch⟩, havailable⟩ := h
  exact ⟨hfetch, fun hrest => by rcases hrest with h | h | h <;> simp [h] at hstate, havailable⟩

/-- Waiting agrees with a session that wants a fetch: past its last segment it would want none (R129). -/
theorem Session.waits_of_wants {s : State} {i : SessionId} (h : s.wants i = true) {queued : Bool}
    (hr : (s.session i).waits queued) (queued' : Bool) : (s.session i).waits queued' := by
  obtain ⟨hfetch, hrest, havailable⟩ := State.wants_imp h
  obtain ⟨_, _, hdone⟩ := hr
  refine Session.waits_of_busy hrest (Bool.eq_false_iff.mpr fun hall => ?_) fun _ => hfetch
  obtain ⟨_, _, hvod, last, hlast, hnext⟩ := hdone hall
  simp [Session.segmentAvailable, hvod, hlast, hnext] at havailable

/-- One session's record written over the same queue. -/
theorem WaitsOrFetches.write {s t : State} (hs : WaitsOrFetches s) (i : SessionId)
    (hqueue : t.arbiter.queue.map (·.session) = s.arbiter.queue.map (·.session))
    (hother : ∀ j, j ≠ i → t.session j = s.session j) (hr : (t.session i).waits (s.isQueued i)) : WaitsOrFetches t := by
  obtain ⟨hwaits, hnodup⟩ := (waitsOrFetches_iff s).mp hs
  refine (waitsOrFetches_iff t).mpr ⟨fun j => ?_, by rw [hqueue]; exact hnodup⟩
  rw [State.isQueued_congr hqueue]
  by_cases hj : j = i
  · subst hj; exact hr
  · rw [hother j hj]; exact hwaits j

/-- A session that joins the queue, at either end. -/
theorem WaitsOrFetches.join {s t : State} (hs : WaitsOrFetches s) {i : SessionId} (hqueued : s.isQueued i = false)
    (hwants : s.wants i = true) (hsession : ∀ j, t.session j = s.session j)
    (hqueue : (t.arbiter.queue.map (·.session)).Perm (i :: s.arbiter.queue.map (·.session))) : WaitsOrFetches t := by
  obtain ⟨hwaits, hnodup⟩ := (waitsOrFetches_iff s).mp hs
  have hnotMem : i ∉ s.arbiter.queue.map (·.session) := fun h => by
    rw [← State.isQueued_iff_mem, hqueued] at h
    exact Bool.false_ne_true h
  refine (waitsOrFetches_iff t).mpr ⟨fun j => ?_, hqueue.nodup_iff.mpr (List.nodup_cons.mpr ⟨hnotMem, hnodup⟩)⟩
  rw [hsession j]
  by_cases hj : j = i
  · subst hj
    exact Session.waits_of_wants hwants (hwaits j) _
  · have hsame : t.isQueued j = s.isQueued j := by
      rw [Bool.eq_iff_iff, State.isQueued_iff_mem, State.isQueued_iff_mem, hqueue.mem_iff, List.mem_cons, or_iff_right hj]
    rw [hsame]
    exact hwaits j

/-- A session whose entry leaves the queue. -/
theorem WaitsOrFetches.leave {s : State} (hs : WaitsOrFetches s) (i : SessionId) : WaitsOrFetches (s.removeEntry i) := by
  obtain ⟨hwaits, hnodup⟩ := (waitsOrFetches_iff s).mp hs
  refine (waitsOrFetches_iff _).mpr ⟨fun j => ?_, hnodup.sublist (List.filter_sublist.map _)⟩
  rw [State.isQueued_removeEntry]
  show (s.session j).waits _
  obtain ⟨hqueued, hrest, hdone⟩ := hwaits j
  refine ⟨fun hq => hqueued (Bool.and_eq_true_iff.mp hq).2, fun hr => ?_, fun hall => ?_⟩
  · obtain ⟨hfetch, hnot⟩ := hrest hr
    exact ⟨hfetch, by rw [hnot, Bool.and_false]⟩
  · obtain ⟨hfetch, hnot, hlast⟩ := hdone hall
    exact ⟨hfetch, by rw [hnot, Bool.and_false], hlast⟩

/-- A waiting session granted: it no longer waits, and holds a record (R145). -/
theorem WaitsOrFetches.grant {s : State} (hs : WaitsOrFetches s) {i : SessionId} (hqueued : s.isQueued i = true) (k : SlotId) :
    WaitsOrFetches ((s.removeEntry i).createRecord i k) := by
  have hleft := hs.leave i
  have hnot : (s.removeEntry i).isQueued i = false := by rw [State.isQueued_removeEntry, bne_self_eq_false, Bool.false_and]
  obtain ⟨hwaits, _⟩ := (waitsOrFetches_iff s).mp hs
  obtain ⟨_, hrest, hall⟩ := Session.waits_queued (hqueued ▸ hwaits i)
  refine hleft.write i rfl (fun j hj => by rw [State.session_createRecord, if_neg hj]) ?_
  rw [State.session_createRecord, if_pos rfl, hnot]
  exact Session.waits_of_busy hrest hall nofun

/-- A record ended, with `r'` written of its session. -/
theorem WaitsOrFetches.ended {s t : State} (hs : WaitsOrFetches s) {i : SessionId} {f : FetchRecord}
    (hf : (s.session i).fetch = some f) (why : Option CancelReason) (hqueue : t.arbiter.queue = (s.endRecord i why).arbiter.queue)
    (hother : ∀ j, j ≠ i → t.session j = (s.endRecord i why).session j)
    (hr : (s.session i).waits false → (t.session i).waits false) : WaitsOrFetches t := by
  obtain ⟨hwaits, _⟩ := (waitsOrFetches_iff s).mp hs
  obtain ⟨hqueued, _⟩ := Session.waits_fetching (hwaits i) hf
  refine hs.write i (by rw [hqueue, State.queue_endRecord]) (fun j hj => ?_) ?_
  · rw [hother j hj, s.session_endRecord_other why hj]
  · rw [hqueued]
    exact hr (hqueued ▸ hwaits i)

theorem Session.waits_endFetch {r : Session} {f : FetchRecord} (hf : r.fetch = some f) (h : r.waits false) :
    ({ r with fetch := none } : Session).waits false := by
  obtain ⟨_, _, hall⟩ := Session.waits_fetching h hf
  exact Session.waits_of_idle rfl hall

theorem WaitsOrFetches.endRecord {s : State} (hs : WaitsOrFetches s) {i : SessionId} {f : FetchRecord}
    (hf : (s.session i).fetch = some f) (why : Option CancelReason) : WaitsOrFetches (s.endRecord i why) :=
  hs.ended hf why rfl (fun _ _ => rfl) fun h => by
    rw [State.session_endRecord_same]
    exact Session.waits_endFetch hf h

/-- A record that stands is written. -/
theorem WaitsOrFetches.setFetch {s t : State} (hs : WaitsOrFetches s) {i : SessionId} {f g : FetchRecord}
    (hf : (s.session i).fetch = some f) (hqueue : t.arbiter.queue = s.arbiter.queue)
    (hsession : ∀ j, t.session j = (s.setFetch i g).session j) : WaitsOrFetches t := by
  obtain ⟨hwaits, _⟩ := (waitsOrFetches_iff s).mp hs
  obtain ⟨hqueued, hrest, hall⟩ := Session.waits_fetching (hwaits i) hf
  refine hs.write i (by rw [hqueue]) (fun j hj => (hsession j).trans (s.session_setSession_other _ hj)) ?_
  rw [hsession, State.setFetch, State.session_updSession_same, hqueued]
  exact Session.waits_of_busy hrest hall nofun

theorem Move.waitsOrFetches {s t : State} (h : Move s t) (hs : WaitsOrFetches s) : WaitsOrFetches t := by
  have hall := (waitsOrFetches_iff s).mp hs
  cases h with
  | aside h =>
    obtain ⟨hwaits, hnodup⟩ := hall
    refine (waitsOrFetches_iff t).mpr ⟨fun i => ?_, by rw [h.queue]; exact hnodup⟩
    rw [h.session i, State.isQueued_congr h.queue]
    exact hwaits i
  | tick | settings | window | clearEstimator => exact (waitsOrFetches_iff _).mpr hall
  | append i hwants hqueued =>
    refine hs.join hqueued hwants (fun _ => rfl) ?_
    rw [State.appendEntry, State.setArbiter_arbiter, List.map_append]
    exact List.perm_append_singleton _ _
  | remove i => exact hs.leave i
  | grant i k hqueued => exact hs.grant hqueued k
  | ended i f why hf => exact hs.endRecord hf why
  | displaced i f why hf hwants =>
    refine (hs.endRecord hf why).join ?_ hwants (fun _ => rfl) (.refl _)
    obtain ⟨hqueued, _⟩ := Session.waits_fetching (hall.1 i) hf
    rw [← hqueued]
    exact State.isQueued_congr (by rw [State.queue_endRecord]) i
  | completed i f total hf =>
    refine hs.ended hf none rfl (fun j hj => State.session_setSession_other _ _ hj) fun h => ?_
    rw [State.session_setSession_same]
    exact Session.waits_completed h hf _ total
  | failed i f why hf =>
    refine hs.ended hf why rfl (fun j hj => State.session_setSession_other _ _ hj) fun h => ?_
    rw [State.session_setSession_same]
    exact Session.waits_failed h hf _
  | activated i f expected expiry hf => exact hs.setFetch hf rfl fun _ => rfl
  | received i f received expected expiry hf => exact hs.setFetch hf rfl fun _ => rfl
  | written i r h =>
    obtain ⟨hwaits, _⟩ := hall
    refine hs.write i rfl (fun j hj => s.session_setSession_other _ hj) ?_
    rw [State.session_setSession_same]
    exact h.waits (hwaits i)

/-! ### The slots (R127, R143) -/

/-- Where a record stands in the pool: its slot and the time of its grant. -/
def Session.place (r : Session) : Option (SlotId × PartTime) := r.fetch.map fun f => (f.slot, f.grantTime)

theorem slotsMatch_iff (s : State) : SlotsMatch s ↔
    (∀ i k time, (s.session i).place = some (k, time) ↔ s.arbiter.slots.get k = some ⟨i, time⟩) ∧
    ∀ k, s.settings.slotCount ≤ k.toNat → s.arbiter.slots.get k = none := by
  have hplace : ∀ (r : Session) k time, r.place = some (k, time) ↔ ∃ f, r.fetch = some f ∧ f.slot = k ∧ f.grantTime = time :=
    fun r k time => by simp [Session.place]
  constructor
  · rintro ⟨hrecord, hslot, hpool⟩
    refine ⟨fun i k time => ?_, hpool⟩
    rw [hplace]
    constructor
    · rintro ⟨f, hf, rfl, rfl⟩
      exact hrecord i f hf
    · intro hk
      obtain ⟨f, hf, hslotOf⟩ := hslot k _ hk
      have hheld := hrecord i f hf
      rw [hslotOf, hk] at hheld
      cases hheld
      exact ⟨f, hf, hslotOf, rfl⟩
  · rintro ⟨hiff, hpool⟩
    refine ⟨fun i f hf => (hiff i f.slot f.grantTime).mp ((hplace _ _ _).mpr ⟨f, hf, rfl, rfl⟩), fun k h hk => ?_, hpool⟩
    obtain ⟨f, hf, hslotOf, _⟩ := (hplace _ _ _).mp ((hiff h.session k h.grantTime).mpr hk)
    exact ⟨f, hf, hslotOf⟩

/-- Slots, pool and the places of the records as they were. -/
theorem SlotsMatch.keep {s t : State} (hs : SlotsMatch s) (hslots : t.arbiter.slots = s.arbiter.slots)
    (hplace : ∀ i, (t.session i).place = (s.session i).place) (hcount : t.settings.slotCount = s.settings.slotCount) :
    SlotsMatch t := by
  rw [slotsMatch_iff] at hs ⊢
  simpa only [hslots, hplace, hcount] using hs

/-- A record ended: its slot is free (R157). -/
theorem SlotsMatch.free {s t : State} (hs : SlotsMatch s) {i : SessionId} {f : FetchRecord}
    (hf : (s.session i).fetch = some f) (hslots : t.arbiter.slots = s.arbiter.slots.set f.slot none)
    (hplace : ∀ j, (t.session j).place = if j = i then none else (s.session j).place)
    (hcount : t.settings.slotCount = s.settings.slotCount) : SlotsMatch t := by
  obtain ⟨hiff, hpool⟩ := (slotsMatch_iff s).mp hs
  have hheld : s.arbiter.slots.get f.slot = some ⟨i, f.grantTime⟩ := hs.ofRecord i f hf
  refine (slotsMatch_iff t).mpr ⟨fun j k time => ?_, fun k hk => ?_⟩
  · rw [hplace, hslots, Four.get_set]
    by_cases hk : k = f.slot
    · subst hk
      by_cases hj : j = i
      · simp [hj]
      · rw [if_neg hj, if_pos rfl, hiff, hheld]
        simp [Ne.symm hj]
    · rw [if_neg hk]
      by_cases hj : j = i
      · subst hj
        rw [if_pos rfl, ← hiff]
        simp [Session.place, hf, Ne.symm hk]
      · rw [if_neg hj, hiff]
  · rw [hslots, Four.get_set]
    split
    · rfl
    · exact hpool k (hcount ▸ hk)

/-- A grant: the session that held no record takes the free slot (R128, R145). -/
theorem SlotsMatch.take {s t : State} (hs : SlotsMatch s) {i : SessionId} {k : SlotId} {now : PartTime}
    (hfetch : (s.session i).fetch = none) (hfree : s.arbiter.slots.get k = none) (hk : k.toNat < s.settings.slotCount)
    (hslots : t.arbiter.slots = s.arbiter.slots.set k (some ⟨i, now⟩))
    (hplace : ∀ j, (t.session j).place = if j = i then some (k, now) else (s.session j).place)
    (hcount : t.settings.slotCount = s.settings.slotCount) : SlotsMatch t := by
  obtain ⟨hiff, hpool⟩ := (slotsMatch_iff s).mp hs
  refine (slotsMatch_iff t).mpr ⟨fun j l time => ?_, fun l hl => ?_⟩
  · rw [hplace, hslots, Four.get_set]
    by_cases hl : l = k
    · subst hl
      by_cases hj : j = i
      · simp [hj]
      · rw [if_neg hj, if_pos rfl, hiff, hfree]
        simp [Ne.symm hj]
    · rw [if_neg hl]
      by_cases hj : j = i
      · subst hj
        rw [if_pos rfl, ← hiff]
        simp [Session.place, hfetch, Ne.symm hl]
      · rw [if_neg hj, hiff]
  · rw [hslots, Four.get_set, if_neg (by rintro rfl; omega)]
    exact hpool l (hcount ▸ hl)

/-- The settings replaced: a pool changes its size only with every slot free (R176, R179). -/
theorem SlotsMatch.resize {s : State} (hs : SlotsMatch s) (c : Settings)
    (hpool : c.slotCount ≠ s.settings.slotCount → ∀ i, (s.session i).fetch = none) : SlotsMatch (s.setSettings c) := by
  refine ⟨hs.ofRecord, hs.ofSlot, fun k hk => ?_⟩
  by_cases hcount : c.slotCount = s.settings.slotCount
  · exact hs.inPool k (hcount ▸ hk)
  · cases hslot : s.arbiter.slots.get k with
    | none => exact hslot
    | some holder =>
      obtain ⟨f, hf, _⟩ := hs.ofSlot k holder hslot
      exact absurd (hf.symm.trans (hpool hcount holder.session)) nofun

theorem State.slots_endRecord {s : State} {i : SessionId} {f : FetchRecord} (hf : (s.session i).fetch = some f)
    (why : Option CancelReason) : (s.endRecord i why).arbiter.slots = s.arbiter.slots.set f.slot none := by
  rw [State.endRecord_eq _ _ _ _ hf]

theorem State.settings_endRecord (s : State) (i : SessionId) (why : Option CancelReason) :
    (s.endRecord i why).settings = s.settings := by
  cases hf : (s.session i).fetch with
  | none => rw [State.endRecord_none _ _ _ hf]
  | some f => rw [State.endRecord_eq _ _ _ _ hf]

/-- A record ended, with its session's record written over. -/
theorem SlotsMatch.ended {s t : State} (hs : SlotsMatch s) {i : SessionId} {f : FetchRecord}
    (hf : (s.session i).fetch = some f) (why : Option CancelReason) (hslots : t.arbiter.slots = (s.endRecord i why).arbiter.slots)
    (hsettings : t.settings = (s.endRecord i why).settings)
    (hother : ∀ j, j ≠ i → t.session j = (s.endRecord i why).session j) (hnone : (t.session i).fetch = none) : SlotsMatch t := by
  refine hs.free hf (hslots.trans (State.slots_endRecord hf why)) (fun j => ?_)
    (by rw [hsettings, State.settings_endRecord])
  split
  · next hj =>
    subst hj
    rw [Session.place, hnone]
    rfl
  · next hj => rw [hother j hj, s.session_endRecord_other why hj]

/-- A record that stands is written, its slot and grant time kept. -/
theorem State.place_setFetch {s : State} {i : SessionId} {f g : FetchRecord} (hf : (s.session i).fetch = some f)
    (hg : (g.slot, g.grantTime) = (f.slot, f.grantTime)) (j : SessionId) :
    ((s.setFetch i g).session j).place = (s.session j).place := by
  rw [State.setFetch, State.session_updSession]
  split
  · next hj =>
    subst hj
    simp only [Session.place, hf, Option.map_some, hg]
  · rfl

theorem Move.slotsMatch {s t : State} (h : Move s t) (hwaits : WaitsOrFetches s) (hs : SlotsMatch s) : SlotsMatch t := by
  cases h with
  | aside h => exact hs.keep h.slots (fun i => by rw [h.session i]; rfl) (by rw [h.settings])
  | tick | window | clearEstimator => exact hs.keep rfl (fun _ => rfl) rfl
  | settings c hrange hpool =>
    refine hs.resize c fun hcount i => (hpool hcount i).elim id fun hclosed => ?_
    obtain ⟨hnone, _⟩ := hwaits.restNoFetch i (.inl hclosed)
    exact hnone
  | append i | remove i => exact hs.keep rfl (fun _ => rfl) rfl
  | grant i k hqueued hfree =>
    have hslot : s.arbiter.slots.get k = none := by simpa [State.freeSlot] using List.find?_some hfree
    refine hs.take (hwaits.queuedNoFetch i hqueued) hslot (State.freeSlot_inPool hfree) rfl (fun j => ?_) rfl
    rw [State.session_createRecord]
    split <;> rfl
  | ended i f why hf => exact hs.ended hf why rfl rfl (fun _ _ => rfl) (by rw [State.session_endRecord_same])
  | displaced i f why hf =>
    exact hs.ended hf why rfl rfl (fun _ _ => rfl) (congrArg Session.fetch (s.session_endRecord_same i why))
  | completed i f total hf =>
    refine hs.ended hf none rfl rfl (fun j hj => State.session_setSession_other _ _ hj) ?_
    rw [State.session_setSession_same]
    exact Session.fetch_completed _ _ _ _
  | failed i f why hf =>
    refine hs.ended hf why rfl rfl (fun j hj => State.session_setSession_other _ _ hj) ?_
    rw [State.session_setSession_same]
    exact Session.fetch_failed _ _
  | activated i f expected expiry hf => exact hs.keep rfl (State.place_setFetch hf rfl) rfl
  | received i f received expected expiry hf => exact hs.keep rfl (State.place_setFetch hf rfl) rfl
  | written i r h =>
    refine hs.keep rfl (fun j => ?_) rfl
    rw [State.session_setSession]
    split
    · next hj =>
      subst hj
      obtain ⟨hall, _⟩ := (waitsOrFetches_iff s).mp hwaits
      rw [Session.place, h.fetch (hall j)]
      rfl
    · rfl

/-! ### The ranges of the settings and the meter (R85, R90, R93, 11 §11.1) -/

/-- The meter's part of `CountsInRange`. -/
structure LinkMeter.InRange (m : LinkMeter) : Prop where
  age : m.age ≤ 7
  ring : m.ring.length ≤ 12
  fast : m.fast ≤ 1000000
  slow : m.slow ≤ 1000000

theorem countsInRange_iff (s : State) :
    CountsInRange s ↔ s.settings.inRange ∧ s.meter.InRange ∧ ∀ i, (s.session i).CountsFit :=
  ⟨fun h => ⟨h.settings, ⟨h.age, h.ring, h.fast, h.slow⟩,
      fun i => ⟨h.level i, h.stallCount i, h.upHold i, h.attempts i, h.skipCount i⟩⟩,
    fun ⟨hsettings, hmeter, hcounts⟩ => ⟨hsettings, fun i => (hcounts i).level, fun i => (hcounts i).stallCount,
      fun i => (hcounts i).upHold, fun i => (hcounts i).attempts, fun i => (hcounts i).skipCount, hmeter.age, hmeter.ring,
      hmeter.fast, hmeter.slow⟩⟩

/-- An average of values up to a bound is up to it (R93). -/
theorem average_le {shift old sample bound : Nat} (hshift : 1 ≤ shift) (hold : old ≤ bound) (hsample : sample ≤ bound) :
    average shift old sample ≤ bound := by
  obtain ⟨n, rfl⟩ := Nat.exists_eq_add_of_le' hshift
  have hpos : 0 < 2 ^ n := Nat.two_pow_pos n
  have htwice : 2 ^ (n + 1) = 2 * 2 ^ n := Nat.pow_succ'
  have hproduct : old * (2 ^ (n + 1) - 1) ≤ bound * (2 ^ (n + 1) - 1) := Nat.mul_le_mul_right _ hold
  have hsplit : bound * (2 ^ (n + 1) - 1) + bound = bound * 2 ^ (n + 1) := by
    rw [Nat.mul_sub_one]
    exact Nat.sub_add_cancel (Nat.le_mul_of_pos_right _ (Nat.two_pow_pos _))
  rw [average, ← Nat.lt_succ_iff, Nat.div_lt_iff_lt_mul (Nat.two_pow_pos _), Nat.succ_mul, Nat.add_sub_cancel]
  omega

theorem length_ringAdd_le {ring : List RingRecord} (h : ring.length ≤ 12) (rec : RingRecord) : (ringAdd ring rec).length ≤ 12 := by
  have hsize : Config.ringSize = 12 := rfl
  rw [ringAdd, List.length_append, List.length_singleton]
  split
  · omega
  · rw [List.length_tail]
    omega

theorem LinkMeter.InRange.estimate {m : LinkMeter} (hm : m.InRange) {c : Settings} (hc : c.inRange) {sample : Nat}
    (hsample : sample ≤ 1000000) : (m.estimate c sample).InRange := by
  unfold LinkMeter.estimate
  split
  · exact ⟨hm.age, hm.ring, hsample, hsample⟩
  · obtain ⟨_, _, _, _, hfast, _, hslow, _⟩ := hc
    exact ⟨hm.age, hm.ring, average_le hfast hm.fast hsample, average_le (by omega) hm.slow hsample⟩

/-- A window's end keeps the ranges: at the greatest age the accumulator is cleared, with a sample or without (R85, R88). -/
theorem LinkMeter.InRange.endWindow {m : LinkMeter} (hm : m.InRange) {c : Settings} (hc : c.inRange) (code : Code)
    (now : PartTime) : (m.endWindow c code now).InRange := by
  have hage := hm.age
  unfold LinkMeter.endWindow
  dsimp only
  split
  · have hadded : ∀ rec, ({ m with ring := ringAdd m.ring rec } : LinkMeter).InRange := fun rec =>
      ⟨hage, length_ringAdd_le hm.ring rec, hm.fast, hm.slow⟩
    have hestimated := (hadded ⟨now, sampleValue m.bytes (m.busyAt now), m.busyAt now, code, m.age + 1⟩).estimate hc
      (sample := sampleValue m.bytes (m.busyAt now)) (Nat.min_le_left _ _)
    exact ⟨Nat.zero_le _, hestimated.ring, hestimated.fast, hestimated.slow⟩
  · next hforms =>
    split
    · exact ⟨Nat.zero_le _, hm.ring, hm.fast, hm.slow⟩
    · next hdropped =>
      refine ⟨?_, hm.ring, hm.fast, hm.slow⟩
      have hmax : Config.maxAge = 8 := rfl
      have hnotMax : ¬ m.age + 1 = Config.maxAge := by simpa [sampleDropped, hforms] using hdropped
      show m.age + 1 ≤ 7
      omega

theorem LinkMeter.InRange.activeUp {m : LinkMeter} (hm : m.InRange) (now : PartTime) : (m.activeUp now).InRange := by
  unfold LinkMeter.activeUp
  split <;> exact ⟨hm.age, hm.ring, hm.fast, hm.slow⟩

theorem LinkMeter.InRange.activeDown {m : LinkMeter} (hm : m.InRange) (now : PartTime) : (m.activeDown now).InRange := by
  unfold LinkMeter.activeDown
  split <;> exact ⟨hm.age, hm.ring, hm.fast, hm.slow⟩

theorem State.meter_endRecord_inRange {s : State} (hm : s.meter.InRange) (i : SessionId) (why : Option CancelReason) :
    (s.endRecord i why).meter.InRange := by
  cases hf : (s.session i).fetch with
  | none => rw [State.endRecord_none _ _ _ hf]; exact hm
  | some f =>
    rw [State.endRecord_eq _ _ _ _ hf]
    dsimp only
    split
    · exact hm.activeDown _
    · exact hm

/-- The settings and the meter in range. -/
def State.deviceInRange (s : State) : Prop := s.settings.inRange ∧ s.meter.InRange

theorem State.deviceInRange_endRecord {s : State} (h : s.deviceInRange) (i : SessionId) (why : Option CancelReason) :
    (s.endRecord i why).deviceInRange := by
  obtain ⟨hsettings, hmeter⟩ := h
  exact ⟨by rw [State.settings_endRecord]; exact hsettings, State.meter_endRecord_inRange hmeter i why⟩

theorem Move.deviceInRange {s t : State} (h : Move s t) (hs : s.deviceInRange) : t.deviceInRange := by
  obtain ⟨hsettings, hmeter⟩ := id hs
  cases h with
  | aside h =>
    refine ⟨by rw [h.settings]; exact hsettings, ?_⟩
    rw [h.meter]
    exact ⟨hmeter.age, hmeter.ring, hmeter.fast, hmeter.slow⟩
  | tick => exact hs
  | append i | remove i | grant i => exact hs
  | received i | written i => exact hs
  | settings c hrange => exact ⟨hrange, hmeter⟩
  | window =>
    have hended := hmeter.endWindow hsettings s.contention.accepted s.partTime
    exact ⟨hsettings, hended.age, hended.ring, hended.fast, hended.slow⟩
  | clearEstimator => exact ⟨hsettings, Nat.zero_le _, Nat.zero_le _, Nat.zero_le _, Nat.zero_le _⟩
  | ended i f why | displaced i f why | failed i f why => exact State.deviceInRange_endRecord hs i why
  | completed i => exact State.deviceInRange_endRecord hs i none
  | activated i => exact ⟨hsettings, hmeter.activeUp _⟩

/-! ### O58 -/

/-- What O58 says is kept together, with the sessions' parts record by record. -/
def LevelInvariant (s : State) : Prop := s.recordsSound ∧ SlotsConsistent s ∧ s.deviceInRange

theorem levelInvariant_iff (s : State) : LevelInvariant s ↔
    ExpiriesInTime s ∧ ExpiriesMatch s ∧ OpenInOrder s ∧ SlotsConsistent s ∧ CountsInRange s := by
  rw [expiriesInTime_iff, expiriesMatch_iff, countsInRange_iff]
  constructor
  · rintro ⟨hsound, hslots, hsettings, hmeter⟩
    exact ⟨fun i => (hsound i).inTime, fun i => (hsound i).stand, fun i hopen => (hsound i).inOrder ((Session.isOpen_iff _).mp hopen),
      hslots, hsettings, hmeter, fun i => (hsound i).counts⟩
  · rintro ⟨htime, hmatch, horder, hslots, hsettings, hmeter, hcounts⟩
    exact ⟨fun i => ⟨hmatch i, htime i, fun hopen => horder i ((Session.isOpen_iff _).mpr hopen), hcounts i⟩, hslots, hsettings,
      hmeter⟩

theorem Move.levelInvariant {s t : State} (hs : LevelInvariant s) (h : Move s t) : LevelInvariant t := by
  obtain ⟨hsound, ⟨hwaits, hslots⟩, hdevice⟩ := hs
  have hlimit : s.settings.retryLimit ≤ 7 := by
    obtain ⟨⟨_, _, _, _, _, _, _, _, _, _, _, _, _, _, _, hretry, _⟩, _⟩ := hdevice
    exact hretry
  exact ⟨h.recordsSound hsound hwaits hlimit, ⟨h.waitsOrFetches hwaits, h.slotsMatch hwaits hslots⟩, h.deviceInRange hdevice⟩

theorem Session.sound_blank (now : PartTime) : Session.blank.Sound now :=
  have hnot : Session.blank.state ≠ .playing := nofun
  ⟨Session.expiriesStand_of_clear hnot rfl rfl rfl, Session.inTime_of_not_playing hnot now, fun h => absurd rfl h,
    Nat.zero_le _, Nat.zero_le _, Nat.zero_le _, Nat.zero_le _, Nat.zero_le _⟩

/-- With every session as after a pin reset, the queue and the slots empty, the invariant holds (R180). -/
theorem levelInvariant_of_blank {s : State} (hsessions : s.sessions = Four.const Session.blank)
    (harbiter : s.arbiter = State.reset.arbiter) (hdevice : s.deviceInRange) : LevelInvariant s := by
  have hblank : ∀ i, s.session i = Session.blank := fun i => by rw [State.session, hsessions, Four.get_const]
  have hqueued : ∀ i, s.isQueued i = false := fun i => by rw [State.isQueued, harbiter]; rfl
  refine ⟨fun i => by rw [hblank]; exact Session.sound_blank _, ⟨(waitsOrFetches_iff s).mpr ⟨fun i => ?_, ?_⟩, ?_⟩, hdevice⟩
  · rw [hblank, hqueued]
    exact Session.waits_of_idle rfl rfl
  · rw [harbiter]
    exact List.nodup_nil
  · have hslots : ∀ k, s.arbiter.slots.get k = none := fun k => by rw [harbiter]; exact Four.get_const _ _
    refine (slotsMatch_iff s).mpr ⟨fun i k time => ?_, fun k _ => hslots k⟩
    rw [hblank, hslots]
    exact ⟨nofun, nofun⟩

theorem levelInvariant_kept : keptByStep LevelInvariant := by
  have hreset : LinkMeter.reset.InRange := ⟨Nat.zero_le _, Nat.zero_le _, Nat.zero_le _, Nat.zero_le _⟩
  exact keptByStep_of_moves (fun _ _ hs h => h.levelInvariant hs)
    (fun _ => levelInvariant_of_blank rfl rfl ⟨Settings.default_inRange, hreset⟩)
    fun _ _ => levelInvariant_of_blank rfl rfl
      ⟨Settings.default_inRange, hreset.age, hreset.ring, hreset.fast, hreset.slow⟩

/-- Settles O58: the expiries stand over every move, and the rest is kept with it move by move. -/
theorem levelExpiriesKept : Obligations.LevelExpiriesKept :=
  ⟨expiriesMatch_kept, fun s t hs hstep =>
    (levelInvariant_iff t).mp (levelInvariant_kept s t ((levelInvariant_iff s).mpr hs) hstep)⟩

end Sys2Proof.Machine

/-! SUPPORT and O20, O21, O48. Reading the link's measurement: a request addressed to the device on its way to the owner,
QUERY_LINK, HISTORY and the link estimate (R9, R34, R35, R96 to R100). -/

namespace Sys2Proof.Machine

open Sys2Proof

/-! ### The link estimate (R34, R35, R96, R97) -/

/-- The margin table with code 7's margin 0 as its last entry (R34, R35). -/
theorem Margins.at_eq_getD (m : Margins) (code : Code) :
    m.at code = [m.m0, m.m1, m.m2, m.m3, m.m4, m.m5, m.m6, 0].getD code.toNat 0 := by
  have hlt : code.toNat < 8 := code.isLt
  unfold Margins.at
  generalize code.toNat = n at hlt
  interval_cases n <;> rfl

theorem Margins.at_seven (m : Margins) : m.at 7#3 = 0 := rfl

theorem Settings.inRange.margin_le {c : Settings} (h : c.inRange) (code : Code) : c.margins.at code ≤ 256 := by
  by_cases hcode : code = 7#3
  · rw [hcode, Margins.at_seven]; exact Nat.zero_le _
  · obtain ⟨_, _, _, _, _, _, _, _, hmargins, _⟩ := h
    exact (hmargins code hcode).2

/-- Settles O48: a margin is at most 256, and 0 at code 7. -/
theorem linkEstimateFormula : Obligations.LinkEstimateFormula := by
  intro s hrange base m
  refine ⟨?_, ?_, fun hcode => ?_⟩
  · rw [← Margins.at_eq_getD]; rfl
  · have hmargin := hrange.margin_le s.contention.accepted
    exact Nat.div_le_of_le_mul (Nat.mul_comm 256 base ▸ Nat.mul_le_mul_left base hmargin)
  · rw [State.estimate, hcode, Margins.at_seven, Nat.mul_zero, Nat.zero_div]

/-! ### The way to the device (R6 to R9) -/

theorem State.serve_device {s : State} {k : ReqKind} {p : List Byte} {r : State × Answer} (h : s.serveDevice k p = some r) :
    s.serve k 0x0E#8 p = r := by
  have htarget : Target.ofByte 0x0E#8 = some .device := Target.ofByte_device
  simp [State.serve, htarget, h]

/-- A device request at a part that is ready for it: what its owner leaves, and the owner's answer (R9, R19). -/
theorem exec_deviceRequest {s core : State} {cmd : Instr} {k : ReqKind} {p : List Byte} {a : Answer}
    (hs : s.linkReady) (hreq : requestOf cmd = some (k, clean 0x0E#8, p)) (hlen : k.requiredLength p = some p.length)
    (hserve : s.serveDevice k p = some (core, a)) :
    exec cmd s = .next (afterReply core (replyTo k 0x0E#8 a.status a.fields)) := by
  rw [exec_request hreq, State.receiveRequest_asItStands hs.1 hlen (.inl hs.2), State.serve_device hserve]

/-! ### QUERY_LINK (R98) -/

/-- While the window expiry is armed, the window remaining is the interval to it (R98). -/
theorem State.windowRemaining_armed {s : State} {x : PartTime} (h : s.meter.windowExpiry = some x) :
    s.windowRemaining = (x - s.partTime).toNat := by
  rw [State.windowRemaining, h]; rfl

/-- Settles O20: the state is the one before, and `State.linkFields` has the layout field by field. -/
theorem queryLinkReports : Obligations.QueryLinkReports := by
  intro s x hs hx
  rw [exec_deviceRequest (k := .queryLink) hs rfl rfl rfl, State.linkFields, State.windowRemaining_armed hx]
  rfl

/-! ### HISTORY (R99, R100) -/

/-- The records of a reply, one for each position asked for: in a ring that is not empty no position misses (R100). -/
theorem historyRecords_eq_map {ring : List RingRecord} (h : 0 < ring.length) (start count : Nat) :
    historyRecords ring start count =
      (List.range count).map fun j => ring[(start + j) % ring.length]'(Nat.mod_lt _ h) :=
  List.filterMap_eq_map_iff_forall_eq_some.mpr fun _ _ => List.getElem?_eq_getElem _

theorem historyRecords_length {ring : List RingRecord} (h : 0 < ring.length) (start count : Nat) :
    (historyRecords ring start count).length = count := by
  rw [historyRecords_eq_map h, List.length_map, List.length_range]

/-- The `j`-th record of a reply stands at position `start + j` modulo the ring's count (R100). -/
theorem historyRecords_getElem? {ring : List RingRecord} (h : 0 < ring.length) (start : Nat) {count j : Nat} (hj : j < count) :
    (historyRecords ring start count)[j]? = ring[(start + j) % ring.length]? := by
  rw [historyRecords_eq_map h, List.getElem?_map, List.getElem?_range hj, List.getElem?_eq_getElem (Nat.mod_lt _ h)]
  rfl

theorem historyAnswer_empty {ring : List RingRecord} (h : ring.length = 0) (start countLessOne : Nat) :
    historyAnswer ring start countLessOne = ⟨.ok, [0#8]⟩ := if_pos h

theorem historyAnswer_past {ring : List RingRecord} {start : Nat} (h : 0 < ring.length) (hstart : ring.length ≤ start)
    (countLessOne : Nat) : historyAnswer ring start countLessOne = .refuse .badField := by
  rw [historyAnswer, if_neg h.ne', if_pos hstart]

/-- From a start position within the ring, as many records as asked for are answered, clamped to all of them (R99). -/
theorem historyAnswer_within {ring : List RingRecord} {start : Nat} (hstart : start < ring.length) (countLessOne : Nat) :
    historyAnswer ring start countLessOne =
      if ring.length < countLessOne + 1 then
        ⟨.clamped, put8 ring.length ++ (historyRecords ring start ring.length).flatMap RingRecord.fields⟩
      else ⟨.ok, put8 (countLessOne + 1) ++ (historyRecords ring start (countLessOne + 1)).flatMap RingRecord.fields⟩ := by
  rw [historyAnswer, if_neg (Nat.zero_lt_of_lt hstart).ne', if_neg hstart.not_ge]

/-- HISTORY changes no state, and its reply is the answer decided from the ring (R99). -/
theorem exec_history {s : State} (hs : s.linkReady) (start countLessOne : Byte) {a : Answer}
    (h : historyAnswer s.meter.ring start.toNat countLessOne.toNat = a) :
    exec (.history (clean 0x0E#8) start countLessOne) s = .next (afterReply s (replyTo .history 0x0E#8 a.status a.fields)) :=
  exec_deviceRequest (k := .history) (p := [start, countLessOne]) hs rfl rfl (congrArg (fun a => some (s, a)) h)

/-- Settles O21, by the four cases of `historyAnswer`. -/
theorem historyReadsRing : Obligations.HistoryReadsRing := by
  intro start countLessOne s hs ring m answer carries
  have hcarries : ∀ (c : Status1) (n : Nat), start.toNat < m → historyAnswer ring start.toNat countLessOne.toNat =
      ⟨c, put8 n ++ (historyRecords ring start.toNat n).flatMap RingRecord.fields⟩ → carries c n := fun c n hstart h =>
    have hring : 0 < ring.length := Nat.zero_lt_of_lt hstart
    ⟨historyRecords ring start.toNat n, historyRecords_length hring _ n, fun _ => historyRecords_getElem? hring _,
      exec_history hs start countLessOne h⟩
  refine ⟨fun hempty => ?_, fun hring hstart => ?_, fun hstart hmore => hcarries _ _ hstart ?_,
    fun hstart hwithin => hcarries _ _ hstart ?_⟩
  · exact exec_history hs start countLessOne (historyAnswer_empty hempty _ _)
  · exact exec_history hs start countLessOne (historyAnswer_past hring hstart _)
  · rw [historyAnswer_within hstart, if_pos hmore]
  · rw [historyAnswer_within hstart, if_neg hwithin.not_gt]

end Sys2Proof.Machine

/-! SUPPORT and O45. WINDOW_EXPIRY: the window-end steps case by case, the examinations a sample hands over, and the busy
reckoning that no act of the arbiter changes (R83, R87 to R95, R166, R170). -/

namespace Sys2Proof.Machine

open Sys2Proof

/-! ### The window-end steps (R83, R87 to R93, R95) -/

theorem sampleForms_iff (windowLength busy age : Nat) :
    sampleForms windowLength busy age = true ↔ windowLength / 2 ≤ busy ∨ (age = 8 ∧ 20 ≤ busy) := by
  simp only [sampleForms, Bool.or_eq_true, Bool.and_eq_true, decide_eq_true_eq]
  exact Iff.rfl

/-- The meter at a window's end beside the accumulator and the estimator: the next window armed with the W in force, which
becomes its length, and the busy reference time set to now (R83, R87). -/
def LinkMeter.armed (m : LinkMeter) (c : Settings) (now : PartTime) : LinkMeter :=
  { m with windowExpiry := some (later now c.window), windowLength := c.window, busyRef := now }

/-- The accumulator cleared at a window's end (R88). -/
def LinkMeter.armedCleared (m : LinkMeter) (c : Settings) (now : PartTime) : LinkMeter :=
  { m.armed c now with bytes := 0, busyStored := 0, age := 0 }

/-- The value of the sample that a window's end forms (R89). -/
def LinkMeter.sampleNow (m : LinkMeter) (now : PartTime) : Nat := sampleValue m.bytes (m.busyAt now)

/-- The meter that a sample formation leaves: its record added to the ring, F and S seeded or averaged, the accumulator
cleared (R88 to R93). -/
def LinkMeter.sampled (m : LinkMeter) (c : Settings) (code : Code) (now : PartTime) : LinkMeter :=
  { m.armedCleared c now with
    ring := ringAdd m.ring ⟨now, m.sampleNow now, m.busyAt now, code, m.age + 1⟩
    fast := if m.empty then m.sampleNow now else average c.fastShift m.fast (m.sampleNow now)
    slow := if m.empty then m.sampleNow now else average c.slowShift m.slow (m.sampleNow now)
    empty := false }

theorem LinkMeter.estimate_eq (m : LinkMeter) (c : Settings) (sample : Nat) : m.estimate c sample = { m with
    fast := if m.empty then sample else average c.fastShift m.fast sample
    slow := if m.empty then sample else average c.slowShift m.slow sample
    empty := false } := by
  unfold LinkMeter.estimate
  split
  · rfl
  · next hfull => simp [hfull]

theorem LinkMeter.armWindow_endWindow_sample {m : LinkMeter} {now : PartTime}
    (h : sampleForms m.windowLength (m.busyAt now) (m.age + 1) = true) (c : Settings) (code : Code) :
    (m.endWindow c code now).armWindow c now = m.sampled c code now := by
  rw [LinkMeter.endWindow, if_pos h]
  dsimp only
  rw [LinkMeter.estimate_eq]
  rfl

/-- Without a sample the accumulator is cleared in the eighth window and else carries over (R88, step 3). -/
theorem LinkMeter.armWindow_endWindow_noSample {m : LinkMeter} {now : PartTime}
    (h : sampleForms m.windowLength (m.busyAt now) (m.age + 1) = false) (c : Settings) (code : Code) :
    (m.endWindow c code now).armWindow c now = if m.age + 1 = 8 then m.armedCleared c now
      else { m.armed c now with busyStored := m.busyAt now, age := m.age + 1 } := by
  have hdropped : sampleDropped m.windowLength (m.busyAt now) (m.age + 1) = decide (m.age + 1 = 8) := by
    rw [sampleDropped, h]; rfl
  rw [LinkMeter.endWindow, if_neg (by simp [h]), hdropped]
  by_cases hage : m.age + 1 = 8
  · rw [if_pos (decide_eq_true hage), if_pos hage]; rfl
  · rw [if_neg (by simpa using hage), if_neg hage]; rfl

/-- A sample formation leaves no busy behind (R87, R88). -/
theorem LinkMeter.busyAt_sampled (m : LinkMeter) (c : Settings) (code : Code) (now : PartTime) :
    (m.sampled c code now).busyAt now = 0 := by
  simp [LinkMeter.busyAt, LinkMeter.sampled, LinkMeter.armedCleared, LinkMeter.armed]

/-! ### Acts that keep the busy reckoning (R87) -/

theorem LinkMeter.busyStored_le_busyAt (m : LinkMeter) (now : PartTime) : m.busyStored ≤ m.busyAt now := by
  unfold LinkMeter.busyAt
  split
  · exact Nat.le_add_right _ _
  · exact Nat.le_refl _

/-- A record that leaves ACTIVE does not change the busy reckoned at that moment (R87). -/
theorem LinkMeter.busyAt_activeDown (m : LinkMeter) (now : PartTime) : (m.activeDown now).busyAt now = m.busyAt now := by
  by_cases hone : m.activeCount = 1
  · simp [LinkMeter.activeDown, LinkMeter.busyAt, hone]
  · have hpos : 0 < m.activeCount - 1 ↔ 0 < m.activeCount := by omega
    simp only [LinkMeter.activeDown, if_neg hone, LinkMeter.busyAt, hpos]

/-- Of the meter only the ACTIVE count and the stored busy may have changed, and the busy reckoned now is the same. -/
structure BusyKept (s t : State) : Prop where
  partTime : t.partTime = s.partTime
  meter : t.meter = { s.meter with activeCount := t.meter.activeCount, busyStored := t.meter.busyStored }
  busy : t.meter.busyAt t.partTime = s.meter.busyAt s.partTime

namespace BusyKept

variable {s t u : State}

theorem refl (s : State) : BusyKept s s := ⟨rfl, rfl, rfl⟩

theorem trans (h : BusyKept s t) (k : BusyKept t u) : BusyKept s u :=
  ⟨k.partTime.trans h.partTime, k.meter.trans (by rw [h.meter]), k.busy.trans h.busy⟩

theorem foldl {α : Type} {f : State → α → State} (hf : ∀ t a, BusyKept t (f t a)) (l : List α) (s : State) :
    BusyKept s (l.foldl f s) := by
  induction l generalizing s with
  | nil => exact refl s
  | cons a l ih => exact (hf s a).trans (ih _)

/-- An act that writes neither the meter nor part time. -/
theorem beside (hmeter : t.meter = s.meter) (hnow : t.partTime = s.partTime) : BusyKept s t :=
  ⟨hnow, by rw [hmeter], by rw [hmeter, hnow]⟩

theorem endRecord (s : State) (i : SessionId) (why : Option CancelReason) : BusyKept s (s.endRecord i why) := by
  cases hf : (s.session i).fetch with
  | none => rw [State.endRecord_none _ _ _ hf]; exact refl s
  | some f =>
    rw [State.endRecord_eq _ _ _ _ hf]
    by_cases hactive : f.state = .active
    · rw [if_pos hactive]
      refine ⟨rfl, ?_, s.meter.busyAt_activeDown s.partTime⟩
      dsimp only [LinkMeter.activeDown]
      split <;> rfl
    · rw [if_neg hactive]; exact ⟨rfl, rfl, rfl⟩

theorem grantUpTo (n : Nat) (s : State) : BusyKept s (s.grantUpTo n) := by
  induction n generalizing s with
  | zero => exact refl s
  | succ n ih =>
    rw [State.grantUpTo]
    split
    · next t ht =>
      obtain ⟨_, k, i, _, _, rfl⟩ := State.grantOnce_eq_some ht
      have hgrant : BusyKept s ((s.removeEntry i).createRecord i k) := beside rfl rfl
      exact hgrant.trans (ih _)
    · exact refl s

theorem preempt (s : State) (i victim : SessionId) : BusyKept s (s.preempt i victim) := by
  have hmarked : BusyKept s (s.markPreemptionUsed i) := beside rfl rfl
  have hended := hmarked.trans (endRecord _ victim (some .preempt))
  unfold State.preempt
  refine BusyKept.trans ?_ (grantUpTo _ _)
  split
  · exact hended.trans (beside rfl rfl)
  · exact hended

theorem considerPreemption (s : State) (i : SessionId) : BusyKept s (s.considerPreemption i) := by
  unfold State.considerPreemption
  split
  · exact preempt s i _
  · exact refl s

theorem considerAll (s : State) : BusyKept s s.considerAll := foldl considerPreemption _ s

theorem abandonedTo (s : State) (i : SessionId) (k : Nat) : BusyKept s (s.abandonedTo i k) :=
  (endRecord s i _).trans (beside rfl rfl)

/-- With no busy at the present part time, only the ACTIVE count can have changed. -/
theorem meter_of_idle (h : BusyKept s t) (hidle : s.meter.busyAt s.partTime = 0) :
    t.meter = { s.meter with activeCount := t.meter.activeCount } := by
  have hs : s.meter.busyStored = 0 := Nat.le_zero.mp (hidle ▸ s.meter.busyStored_le_busyAt s.partTime)
  have ht : t.meter.busyStored = 0 := Nat.le_zero.mp (h.busy.trans hidle ▸ t.meter.busyStored_le_busyAt t.partTime)
  rw [h.meter, ht, ← hs]

end BusyKept

/-! ### The examinations of a sample formation (R166, R170) -/

/-- Steps 1 to 3 of every abandonment that the examinations on `u` decide, in order of session number (R170). -/
def State.givenUp (u : State) : State := Idx4.all.foldl (fun v i => (u.examine i).elim v (v.abandonedTo i)) u

/-- Step 4 of the abandonments, before the grants: each session that has lost its fetch and wants one joins the queue
(R170). -/
def State.rejoined (u : State) : State :=
  Idx4.all.foldl (fun v i =>
    if u.examine i ≠ none ∧ v.wants i = true ∧ v.isQueued i = false then
      { v with arbiter := { v.arbiter with queue := v.arbiter.queue ++ [⟨i, false⟩] } }
    else v) u.givenUp

theorem State.abandonments_eq_nil_iff (s : State) : s.abandonments = [] ↔ ∀ i, s.examine i = none := by
  simp [State.abandonments, List.filterMap_eq_nil_iff, Idx4.mem_all]

/-- A fold over the abandonments is one over all sessions that passes over those whose fetch is kept. -/
theorem State.foldl_abandonments (u v : State) (f : State → SessionId → Nat → State) :
    u.abandonments.foldl (fun t a => f t a.1 a.2) v =
      Idx4.all.foldl (fun t i => (u.examine i).elim t (f t i)) v := by
  rw [State.abandonments, List.foldl_filterMap]
  congr 1
  funext t i
  cases u.examine i <;> rfl

theorem State.givenUp_eq_foldl_abandon (u : State) :
    u.abandonments.foldl (fun t a => t.abandon a.1 a.2) u = u.givenUp := u.foldl_abandonments u State.abandon

theorem State.rejoined_eq_foldl_appendIfJoins (u : State) :
    u.abandonments.foldl (fun t a => t.appendIfJoins a.1) u.givenUp = u.rejoined := by
  rw [u.foldl_abandonments u.givenUp fun t i _ => t.appendIfJoins i, State.rejoined]
  congr 1
  funext t i
  cases u.examine i with
  | none => simp
  | some k => simp [State.appendIfJoins, State.joins, State.appendEntry, State.setArbiter]

theorem State.examineAll_of_none {u : State} (h : ∀ i, u.examine i = none) : u.examineAll = u := by
  rw [State.examineAll, u.abandonments_eq_nil_iff.mpr h]

theorem State.examineAll_of_some {u : State} (h : ∃ i, u.examine i ≠ none) :
    u.examineAll = u.rejoined.grantAll.considerAll := by
  have hsome : u.abandonments ≠ [] := fun hnil =>
    let ⟨i, hi⟩ := h
    hi (u.abandonments_eq_nil_iff.mp hnil i)
  rw [← u.rejoined_eq_foldl_appendIfJoins, ← u.givenUp_eq_foldl_abandon, State.examineAll]
  split
  · next hnil => exact absurd hnil hsome
  · next hcons => rw [hcons]

theorem State.rejoined_only (u : State) : ArbiterOnly u.givenUp u.rejoined :=
  ArbiterOnly.foldl (fun v i => .ite (.setArbiter v { v.arbiter with queue := v.arbiter.queue ++ [⟨i, false⟩] } rfl rfl)
    (.refl v)) _ _

theorem State.givenUp_of_none {u : State} (h : ∀ i, u.examine i = none) : u.givenUp = u := by
  simp only [State.givenUp, h, Option.elim_none, List.foldl_fixed]

/-- After the abandonments only the arbiter acts (R170). -/
theorem State.examineAll_only (u : State) : ArbiterOnly u.givenUp u.examineAll := by
  by_cases h : ∀ i, u.examine i = none
  · rw [State.examineAll_of_none h, State.givenUp_of_none h]; exact .refl u
  · rw [State.examineAll_of_some (not_forall.mp h)]
    exact (u.rejoined_only.trans (State.grantAll_only _)).trans (State.considerAll_only _)

theorem BusyKept.givenUp (u : State) : BusyKept u u.givenUp := by
  refine foldl (fun t i => ?_) _ u
  cases u.examine i with
  | none => exact refl t
  | some k => exact abandonedTo t i k

theorem BusyKept.examineAll (u : State) : BusyKept u u.examineAll := by
  by_cases h : ∀ i, u.examine i = none
  · rw [State.examineAll_of_none h]; exact refl u
  · rw [State.examineAll_of_some (not_forall.mp h)]
    have hrejoined : BusyKept u.givenUp u.rejoined := foldl (fun t i => by split <;> exact ⟨rfl, rfl, rfl⟩) _ _
    exact ((givenUp u).trans hrejoined).trans ((grantUpTo _ _).trans (considerAll _))

/-! ### What the abandonments leave of one session (R157, R158, R170) -/

theorem State.notices_endRecord_other (s : State) {i j : SessionId} (why : Option CancelReason) (h : j ≠ i) :
    (s.endRecord i why).notices j = s.notices j := by
  cases hf : (s.session i).fetch with
  | none => rw [State.endRecord_none _ _ _ hf]
  | some f => rw [State.endRecord_eq _ _ _ _ hf]; exact Four.get_set_other _ _ h

/-- A session's record and its pending set. -/
def State.standing (s : State) (i : SessionId) : Session × NoticeSet := (s.session i, s.notices i)

theorem State.standing_abandonedTo_other (s : State) {i j : SessionId} (k : Nat) (h : j ≠ i) :
    (s.abandonedTo i k).standing j = s.standing j := by
  have hsession : (s.abandonedTo i k).session j = (s.endRecord i (some .abandon)).session j := Four.get_set_other _ _ h
  exact Prod.ext (hsession.trans (s.session_endRecord_other _ h)) (s.notices_endRecord_other _ h)

theorem State.standing_abandonedTo_same (s : State) {i : SessionId} {f : FetchRecord} (hf : (s.session i).fetch = some f)
    (k : Nat) : (s.abandonedTo i k).standing i =
      ({ s.session i with fetch := none, upHold := 0, rungLimit := some (.exact k) },
        (s.notices i).afterEnding f.tag (some .abandon)) := by
  have hsession : (s.abandonedTo i k).session i =
      { (s.endRecord i (some .abandon)).session i with upHold := 0, rungLimit := some (.exact k) } := Four.get_set_same _ _ _
  have hnotices : (s.endRecord i (some .abandon)).notices i = (s.notices i).afterEnding f.tag (some .abandon) := by
    rw [State.endRecord_eq _ _ _ _ hf]; exact Four.get_set_same _ _ _
  refine Prod.ext (hsession.trans ?_) hnotices
  rw [State.session_endRecord_same]

/-- In a fold over all sessions whose act for one leaves every other's standing, a session stands as its own act leaves it,
taken in some state in which it stood as at the beginning. -/
theorem State.standing_foldl_all {f : State → SessionId → State} (u : State) (i : SessionId)
    (h : ∀ v j, i ≠ j → (f v j).standing i = v.standing i) :
    ∃ v, v.standing i = u.standing i ∧ (Idx4.all.foldl f u).standing i = (f v i).standing i := by
  have hkept : ∀ (l : List SessionId) (v : State), i ∉ l → (l.foldl f v).standing i = v.standing i := by
    intro l
    induction l with
    | nil => exact fun _ _ => rfl
    | cons j l ih =>
      intro v hi
      rw [List.mem_cons, not_or] at hi
      obtain ⟨hj, hl⟩ := hi
      exact (ih _ hl).trans (h v j hj)
  obtain ⟨before, after, hall⟩ := List.append_of_mem i.mem_all
  have hnodup := Idx4.nodup_all
  rw [hall, List.nodup_middle, List.nodup_cons, List.mem_append, not_or] at hnodup
  obtain ⟨⟨hbefore, hafter⟩, _⟩ := hnodup
  refine ⟨before.foldl f u, hkept before u hbefore, ?_⟩
  rw [hall, List.foldl_append, List.foldl_cons]
  exact hkept after _ hafter

theorem State.standing_givenUp (u : State) (i : SessionId) :
    ∃ v : State, v.standing i = u.standing i ∧
      u.givenUp.standing i = ((u.examine i).elim v (v.abandonedTo i)).standing i :=
  u.standing_foldl_all i fun v j hj => by
    cases u.examine j with
    | none => rfl
    | some k => exact v.standing_abandonedTo_other k hj

theorem State.standing_givenUp_kept {u : State} {i : SessionId} (h : u.examine i = none) :
    u.givenUp.standing i = u.standing i := by
  obtain ⟨v, hv, hgiven⟩ := u.standing_givenUp i
  rw [hgiven, h, Option.elim_none, hv]

theorem State.standing_givenUp_abandoned {u : State} {i : SessionId} {k : Nat} {f : FetchRecord} (h : u.examine i = some k)
    (hf : (u.session i).fetch = some f) : u.givenUp.standing i =
      ({ u.session i with fetch := none, upHold := 0, rungLimit := some (.exact k) },
        (u.notices i).afterEnding f.tag (some .abandon)) := by
  obtain ⟨v, hv, hgiven⟩ := u.standing_givenUp i
  obtain ⟨hsession, hnotices⟩ : v.session i = u.session i ∧ v.notices i = u.notices i := Prod.ext_iff.mp hv
  rw [hgiven, h, Option.elim_some, v.standing_abandonedTo_same (by rw [hsession]; exact hf), hsession, hnotices]

/-! ### WINDOW_EXPIRY -/

/-- With no sample nothing but the meter changes (R88). -/
theorem State.windowNow_noSample {s : State} (h : s.formsSample = false) : s.windowNow =
    { s with meter := if s.meter.age + 1 = 8 then s.meter.armedCleared s.settings s.partTime
      else { s.meter.armed s.settings s.partTime with busyStored := s.meter.busyAt s.partTime, age := s.meter.age + 1 } } := by
  rw [State.windowNow, LinkMeter.armWindow_endWindow_noSample h, h]
  rfl

/-- A sample has every fetch examined on the state it leaves (R88, R166). -/
theorem State.windowNow_sample {s : State} (h : s.formsSample = true) : s.windowNow =
    State.examineAll { s with meter := s.meter.sampled s.settings s.contention.accepted s.partTime } := by
  rw [State.windowNow, LinkMeter.armWindow_endWindow_sample h, h]
  rfl

/-- Settles O45: the meter by the cases of `endWindow`, and the examinations by `State.examineAll_of_some` and what the
abandonments leave of each session. -/
theorem windowExpirySamples : Obligations.WindowExpirySamples := by
  intro s hn hs hdue m busy age armed cleared value mean forms
  have hexec : exec .windowExpiry s = .next s.windowNow := whileRunning_fall hn hs hdue State.windowNow
  have hforms : s.formsSample = true ↔ forms := sampleForms_iff _ _ _
  rw [hexec]
  refine ⟨fun hnot => ?_, fun hforming => ?_⟩
  · rw [State.windowNow_noSample (Bool.eq_false_iff.mpr (mt hforms.mp hnot))]
    rfl
  · intro meter u given joined
    have hring : m.ring.drop 1 = m.ring.tail := List.drop_one
    have hu : u = { s with meter := m.sampled s.settings s.contention.accepted s.partTime } := by
      dsimp only [u, meter]
      rw [hring]
      rfl
    have hidle : u.meter.busyAt u.partTime = 0 := by rw [hu]; exact m.busyAt_sampled _ _ _
    refine ⟨u.examineAll, ?_, u.examineAll_only, State.examineAll_of_none, State.examineAll_of_some,
      (BusyKept.examineAll u).meter_of_idle hidle, fun i => ⟨fun hkept => ?_, fun k f hk hf => ?_⟩⟩
    · rw [State.windowNow_sample (hforms.mpr hforming), hu]
    · exact Prod.ext_iff.mp (State.standing_givenUp_kept hkept)
    · exact Prod.ext_iff.mp (State.standing_givenUp_abandoned hk hf)

end Sys2Proof.Machine

/-! SUPPORT and O50. The ratios of the size table: what an observed total makes of one, and which one an unobserved rung borrows
(R104, R105, R108). -/

namespace Sys2Proof.Machine

open Sys2Proof

/-! ### Which ratio a rung is priced at (R108) -/

section Effective

variable {ladder : List Rung} {j k n : Nat} {d : Rung}

/-- With no observed rung below `n`, none is left of the first `n` rungs. -/
theorem observed_take_eq_nil (h : ∀ (x : Nat) (c : Rung), x < n → ladder[x]? = some c → c.observed = false) :
    (ladder.take n).filter (·.observed) = [] := by
  refine List.filter_eq_nil_iff.mpr fun e he => ?_
  obtain ⟨x, hx⟩ := List.mem_iff_getElem?.mp he
  rw [List.getElem?_take, Option.ite_none_right_eq_some] at hx
  obtain ⟨hlt, hat⟩ := hx
  simp [h x e hlt hat]

/-- The last observed one of the first `n` rungs is the one that no observed rung follows. -/
theorem getLast?_observed_take (hd : ladder[j]? = some d) (hobserved : d.observed = true) (hj : j < n)
    (h : ∀ (x : Nat) (c : Rung), j < x → x < n → ladder[x]? = some c → c.observed = false) :
    ((ladder.take n).filter (·.observed)).getLast? = some d := by
  have hat : (ladder.take n)[j]? = some d := by rw [List.getElem?_take_of_lt hj, hd]
  obtain ⟨hlt, hget⟩ := List.getElem?_eq_some_iff.mp hat
  have hafter : ((ladder.take n).drop (j + 1)).filter (·.observed) = [] := by
    refine List.filter_eq_nil_iff.mpr fun e he => ?_
    obtain ⟨x, hx⟩ := List.mem_iff_getElem?.mp he
    rw [List.getElem?_drop, List.getElem?_take, Option.ite_none_right_eq_some] at hx
    obtain ⟨hbelow, hrung⟩ := hx
    simp [h _ e (by omega) hbelow hrung]
  rw [← List.take_append_drop j (ladder.take n), List.drop_eq_getElem_cons hlt, hget, List.filter_append,
    List.filter_cons_of_pos hobserved, hafter, List.getLast?_append_cons, List.getLast?_singleton]

/-- The first observed rung from `n` on is the one that no observed rung comes before. -/
theorem find?_observed_drop (hd : ladder[j]? = some d) (hobserved : d.observed = true) (hj : n ≤ j)
    (h : ∀ (x : Nat) (c : Rung), x < j → ladder[x]? = some c → c.observed = false) :
    (ladder.drop n).find? (·.observed) = some d := by
  have hat : (ladder.drop n)[j - n]? = some d := by rw [List.getElem?_drop, Nat.add_sub_cancel' hj, hd]
  obtain ⟨hlt, hget⟩ := List.getElem?_eq_some_iff.mp hat
  refine List.find?_eq_some_iff_getElem.mpr ⟨hobserved, j - n, hlt, hget, fun x hx => ?_⟩
  simp [h (n + x) _ (by omega) (List.getElem?_eq_getElem (by rw [List.length_drop] at hlt; omega))]

/-- The highest observed rung at or below a rung prices it (R108). -/
theorem effectiveRatio_of_below (hd : ladder[j]? = some d) (hobserved : d.observed = true) (hj : j ≤ k)
    (h : ∀ (x : Nat) (c : Rung), j < x → x ≤ k → ladder[x]? = some c → c.observed = false) :
    effectiveRatio ladder k = d.ratio := by
  have hlast := getLast?_observed_take hd hobserved (Nat.lt_succ_of_le hj) fun x c hlo hhi =>
    h x c hlo (Nat.le_of_lt_succ hhi)
  simp [effectiveRatio, hlast]

/-- With none at or below it, the lowest observed rung above prices a rung (R108). -/
theorem effectiveRatio_of_above (hd : ladder[j]? = some d) (hobserved : d.observed = true) (hj : k < j)
    (h : ∀ (x : Nat) (c : Rung), x < j → ladder[x]? = some c → c.observed = false) :
    effectiveRatio ladder k = d.ratio := by
  have hbelow : (ladder.take (k + 1)).filter (·.observed) = [] := observed_take_eq_nil fun x c hx => h x c (by omega)
  have hfirst := find?_observed_drop hd hobserved hj h
  simp [effectiveRatio, hbelow, hfirst]

end Effective

/-! ### What a completion makes of a ratio (R104, R105) -/

/-- Step 2 brings an observed ratio between half the stored one and its double, within 64..1023 (R104). -/
theorem clampRatio_range {q : Nat} (hmin : 64 ≤ q) (hmax : q ≤ 1023) (o : Nat) :
    max 64 (q / 2) ≤ clampRatio q o ∧ clampRatio q o ≤ min 1023 (2 * q) := by
  have hbounds : max 64 (q / 2) ≤ min 1023 (2 * q) := by omega
  exact ⟨clamp_ge hbounds, clamp_le hbounds⟩

theorem learnedRatio_range {q : Nat} (hmin : 64 ≤ q) (hmax : q ≤ 1023) (total nominal : Nat) :
    64 ≤ learnedRatio q total nominal ∧ learnedRatio q total nominal ≤ 1023 := by
  obtain ⟨hge, hle⟩ := clampRatio_range hmin hmax (total * 256 / nominal)
  unfold learnedRatio
  omega

/-- One completion moves a ratio down by at most an eighth, rounded up (log 15), and up by at most a quarter and one (R105). -/
theorem learnedRatio_moves {q : Nat} (hmin : 64 ≤ q) (hmax : q ≤ 1023) (total nominal : Nat) :
    q * 7 ≤ learnedRatio q total nominal * 8 + 7 ∧ learnedRatio q total nominal * 4 ≤ q * 5 + 4 := by
  obtain ⟨hge, hle⟩ := clampRatio_range hmin hmax (total * 256 / nominal)
  unfold learnedRatio
  omega

theorem learnedRatio_eq {q : Nat} (hmin : 64 ≤ q) (hmax : q ≤ 1023) (total nominal : Nat) :
    learnedRatio q total nominal =
      (3 * q + max (max 64 (q / 2)) (min (min 1023 (2 * q)) (total * 256 / nominal)) + 2) / 4 := by
  rw [learnedRatio, clampRatio, clamp_eq_max_min (by omega)]

/-- Settles O50: a rung's price by the nearest observed rung, and a ratio's movement by the clamp of R104. -/
theorem ratiosLearnAndLend : Obligations.RatiosLearnAndLend := by
  refine ⟨fun ladder k e he => ⟨fun hobserved => ?_, fun hnot j d hd hobserved hnearest => ?_, fun hnone => ?_⟩,
    fun q total nominal hmin hmax => ?_⟩
  · exact effectiveRatio_of_below he hobserved le_rfl fun x _ hlo hhi => absurd hlo (Nat.not_lt.mpr hhi)
  · obtain ⟨hj, hbetween⟩ | ⟨hj, hbefore⟩ := hnearest
    · refine effectiveRatio_of_below hd hobserved hj.le fun x c hlo hhi hc => ?_
      obtain hlt | rfl := hhi.lt_or_eq
      · exact hbetween x c hlo hlt hc
      · exact Option.some.inj (he.symm.trans hc) ▸ hnot
    · exact effectiveRatio_of_above hd hobserved hj hbefore
  · exact effectiveRatio_unobserved hnone k
  · obtain ⟨hge, hle⟩ := learnedRatio_range hmin hmax total nominal
    exact ⟨learnedRatio_eq hmin hmax total nominal, hge, hle, learnedRatio_moves hmin hmax total nominal⟩

end Sys2Proof.Machine

/-! O59. Ratios, counts and the order of an open session's fields over every move (R39, R41, R60, R66, R85, R90, R93, R105, R125,
R159, R162). -/

namespace Sys2Proof.Machine

open Sys2Proof

/-! ### The ladder of a record (R45, R104, R105) -/

/-- The record's part of `RatiosInRange`. -/
def Session.ratiosFit (r : Session) : Prop := ∀ e ∈ r.ladder, 64 ≤ e.ratio ∧ e.ratio ≤ 1023

theorem ratiosInRange_iff (s : State) : RatiosInRange s ↔ ∀ i, (s.session i).ratiosFit := Iff.rfl

theorem Session.ratiosFit_of_ladder {r r' : Session} (h : r'.ladder = r.ladder) (hr : r.ratiosFit) : r'.ratiosFit := by
  unfold Session.ratiosFit
  rw [h]
  exact hr

theorem Session.ladder_skip (r : Session) (segment : Nat) : (r.skip segment).ladder = r.ladder := by
  unfold Session.skip Session.recordSkip; split <;> rfl

theorem Session.ladder_enter (r : Session) (now : PartTime) (st : SessionState) : (r.enter now st).ladder = r.ladder := by
  unfold Session.enter; split <;> rfl

theorem Session.ladder_ranDry (r : Session) (now : PartTime) : (r.ranDry now).ladder = r.ladder := by
  unfold Session.ranDry; split <;> rfl

theorem Session.ladder_afterZero (r : Session) (now : PartTime) : (r.afterZero now).ladder = r.ladder := by
  unfold Session.afterZero
  split
  · exact r.ladder_ranDry now
  · rfl

theorem Session.ladder_afterThreshold (r : Session) : r.afterThreshold.ladder = r.ladder := by
  rw [r.afterThreshold_keeps]

theorem Session.ladder_recordCompletion (r : Session) (k : Nat) : (r.recordCompletion k).ladder = r.ladder := by
  unfold Session.recordCompletion; split <;> rfl

/-- Of the ladder, a completion writes what it teaches (R104, R152). -/
theorem Session.ladder_completed (r : Session) (now : PartTime) (f : FetchRecord) (total : Nat) :
    (r.completed now f total).ladder = (({ r with fetch := none } : Session).learn f.rung total).ladder :=
  (Session.ladder_afterThreshold _).trans (Session.ladder_recordCompletion _ _)

/-- No rule's write but OPEN's touches the ladder (R45). -/
theorem Session.Written.ladder {s : State} {i : SessionId} {r r' : Session} (h : Session.Written s i r r') :
    r'.ladder = r.ladder ∨ ∃ (o : OpenRequest) (now : PartTime), r' = o.record now := by
  cases h with
  | autostart | edge | limits | abandoned | retried | lowFallen | refillFallen => exact .inl rfl
  | played | paused | sought | shut => exact .inl rfl
  | skipped segment => exact .inl (r.ladder_skip segment)
  | ranDry => exact .inl (r.ladder_ranDry _)
  | playedOut => exact .inl ((Session.ladder_afterZero _ _).trans (Session.ladder_afterThreshold _))
  | opened o => exact .inr ⟨o, _, rfl⟩

/-! ### Ratios (R105) -/

theorem Session.ratiosFit_learn {r : Session} (hr : r.ratiosFit) (k total : Nat) : (r.learn k total).ratiosFit := by
  unfold Session.learn
  split
  · exact hr
  · intro e he
    obtain ⟨n, hn⟩ := List.mem_iff_getElem?.mp he
    rw [List.getElem?_modify] at hn
    obtain ⟨old, hold, rfl⟩ := Option.map_eq_some_iff.mp hn
    obtain ⟨hmin, hmax⟩ := hr old (List.mem_of_getElem? hold)
    split
    · exact learnedRatio_range hmin hmax total _
    · exact ⟨hmin, hmax⟩

/-- A session opens with every ratio at 256 (R45, R102). -/
theorem OpenRequest.record_ratiosFit (o : OpenRequest) (now : PartTime) : (o.record now).ratiosFit := by
  intro e he
  obtain ⟨_, _, rfl⟩ := List.mem_map.mp he
  have hnominal : 64 ≤ 256 ∧ 256 ≤ 1023 := by decide
  exact hnominal

theorem Session.Change.ratiosFit {s : State} {i : SessionId} {r r' : Session} (h : Session.Change s i r r')
    (hr : r.ratiosFit) : r'.ratiosFit := by
  cases h with
  | beside r' h => rw [h]; exact hr
  | completed f total =>
    exact Session.ratiosFit_of_ladder (r.ladder_completed _ f total)
      (Session.ratiosFit_learn (r := { r with fetch := none }) hr f.rung total)
  | failed => exact Session.ratiosFit_of_ladder (Session.ladder_enter _ _ _) hr
  | written r' h =>
    obtain hladder | ⟨o, now, rfl⟩ := h.ladder
    · exact Session.ratiosFit_of_ladder hladder hr
    · exact o.record_ratiosFit now

/-- The first part of O59. -/
theorem ratiosInRange_kept : keptByStep RatiosInRange := by
  have hblank : ∀ i, ((Four.const Session.blank).get i).ratiosFit := fun i => by
    rw [Four.get_const]
    exact nofun
  exact keptByStep_of_moves (fun _ _ hs h i => (h.change i).ratiosFit (hs i)) (fun _ => hblank) fun _ _ => hblank

/-! ### The state that the pins leave (R180) -/

theorem LinkMeter.reset_inRange : LinkMeter.reset.InRange :=
  ⟨Nat.zero_le _, Nat.zero_le _, Nat.zero_le _, Nat.zero_le _⟩

theorem State.held_levelInvariant (s : State) : LevelInvariant s.held :=
  levelInvariant_of_blank rfl rfl ⟨Settings.default_inRange, LinkMeter.reset_inRange⟩

theorem State.release_levelInvariant (s : State) (baudHigh : Bool) : LevelInvariant (s.release baudHigh) :=
  have hmeter := LinkMeter.reset_inRange
  levelInvariant_of_blank rfl rfl ⟨Settings.default_inRange, hmeter.age, hmeter.ring, hmeter.fast, hmeter.slow⟩

/-! ### Settings, meter and counts (R60, R66, R85, R90, R93, R125, R159, R162) -/

theorem Session.Change.countsFit {s : State} {i : SessionId} {r r' : Session} (h : Session.Change s i r r')
    (hr : r.CountsFit) (hlimit : s.settings.retryLimit ≤ 7) : r'.CountsFit := by
  cases h with
  | beside r' h hskip =>
    rw [h]
    exact ⟨hr.level, hr.stallCount, hr.upHold, hr.attempts, hskip.trans hr.skipCount⟩
  | completed f total => exact hr.completed _ f total
  | failed => exact hr.failed _
  | written r' h => exact h.countsFit hr hlimit

theorem Settings.inRange.retryLimit_le {c : Settings} (h : c.inRange) : c.retryLimit ≤ 7 := by
  unfold Settings.inRange at h
  omega

theorem Move.countsInRange {s t : State} (h : Move s t) (hs : CountsInRange s) : CountsInRange t := by
  obtain ⟨hsettings, hmeter, hcounts⟩ := (countsInRange_iff s).mp hs
  obtain ⟨hsettings', hmeter'⟩ := h.deviceInRange ⟨hsettings, hmeter⟩
  exact (countsInRange_iff t).mpr
    ⟨hsettings', hmeter', fun i => (h.change i).countsFit (hcounts i) hsettings.retryLimit_le⟩

theorem LevelInvariant.countsInRange {s : State} (h : LevelInvariant s) : CountsInRange s := by
  obtain ⟨_, _, _, _, hcounts⟩ := (levelInvariant_iff s).mp h
  exact hcounts

/-- The second part of O59. -/
theorem countsInRange_kept : keptByStep CountsInRange :=
  keptByStep_of_moves (fun _ _ hs h => h.countsInRange hs) (fun s => s.held_levelInvariant.countsInRange)
    fun s baudHigh => (s.release_levelInvariant baudHigh).countsInRange

/-! ### Marks, ladder and limits of an open session (R39, R41) -/

/-- What the third part of O59 says is kept together. -/
def OrderInvariant (s : State) : Prop := OpenInOrder s ∧ ExpiriesMatch s ∧ SlotsConsistent s

theorem LevelInvariant.orderInvariant {s : State} (h : LevelInvariant s) : OrderInvariant s := by
  obtain ⟨_, hmatch, horder, hslots, _⟩ := (levelInvariant_iff s).mp h
  exact ⟨horder, hmatch, hslots⟩

/-- A record with fields in order while open keeps them so; only an open session's fetch completes or fails. -/
theorem Session.Change.inOrder {s : State} {i : SessionId} {r r' : Session} (h : Session.Change s i r r')
    (hstand : r.expiriesStand) (hfetch : ∀ f, r.fetch = some f → r.state ≠ .closed) (hr : r.state ≠ .closed → r.inOrder)
    (hopen : r'.state ≠ .closed) : r'.inOrder := by
  cases h with
  | beside r' h =>
    rw [h] at hopen ⊢
    exact hr hopen
  | completed f total hf => exact Session.inOrder_of_programme (r.programme_completed _ f total) (hr (hfetch f hf))
  | failed f hf => exact Session.inOrder_of_programme (Session.programme_enter _ _ _) (hr (hfetch f hf))
  | written r' h => exact h.inOrder hstand hr hopen

/-- A session that holds a record is open (R56). -/
theorem WaitsOrFetches.open_of_fetch {s : State} (h : WaitsOrFetches s) {i : SessionId} {f : FetchRecord}
    (hf : (s.session i).fetch = some f) : (s.session i).state ≠ .closed := fun hclosed => by
  obtain ⟨hnone, _⟩ := h.restNoFetch i (.inl hclosed)
  exact absurd (hf.symm.trans hnone) nofun

theorem Move.orderInvariant {s t : State} (h : Move s t) (hs : OrderInvariant s) : OrderInvariant t := by
  obtain ⟨horder, hmatch, hwaits, hslots⟩ := hs
  refine ⟨fun i hopen => ?_, fun i => (h.change i).expiriesStand (hmatch i), h.waitsOrFetches hwaits,
    h.slotsMatch hwaits hslots⟩
  exact (h.change i).inOrder (hmatch i) (fun _ => hwaits.open_of_fetch)
    (fun hnot => horder i ((Session.isOpen_iff _).mpr hnot)) ((Session.isOpen_iff _).mp hopen)

/-- The third part of O59. -/
theorem orderInvariant_kept : keptByStep OrderInvariant :=
  keptByStep_of_moves (fun _ _ hs h => h.orderInvariant hs) (fun s => s.held_levelInvariant.orderInvariant)
    fun s baudHigh => (s.release_levelInvariant baudHigh).orderInvariant

/-- Settles O59: each of the three is kept by every move, and holds as the pins leave the part. -/
theorem rangesKept : Obligations.RangesKept := ⟨ratiosInRange_kept, countsInRange_kept, orderInvariant_kept⟩

end Sys2Proof.Machine

/-! SUPPORT and O49. Shares of the link and what a rung is predicted to cost (R109, R110, R112, R113). -/

namespace Sys2Proof.Machine

open Sys2Proof

/-! ### The demand set and the share (R109, R110) -/

theorem State.mem_demandSet (s : State) (i j : SessionId) :
    j ∈ s.demandSet i ↔ j = i ∨ (s.session j).fetch ≠ none ∨ ∃ e ∈ s.arbiter.queue, e.session = j := by
  simp [State.demandSet, Idx4.mem_all, State.hasFetch_eq, State.isQueued_iff, or_assoc]

theorem State.nodup_demandSet (s : State) (i : SessionId) : (s.demandSet i).Nodup := Idx4.nodup_all.filter _

/-- A session's own weight is one of those added up (R109). -/
theorem State.weight_le_weightSum (s : State) (i : SessionId) : (s.session i).weight ≤ s.weightSum i :=
  List.le_sum_of_mem (List.mem_map.mpr ⟨i, (s.mem_demandSet i i).mpr (.inl rfl), rfl⟩)

/-- A share lies within 0..E (R110). -/
theorem State.share_le_estimate (s : State) (i : SessionId) : s.share i ≤ s.estimate := by
  refine Nat.div_le_of_le_mul ?_
  rw [Nat.mul_comm (s.weightSum i)]
  exact Nat.mul_le_mul_left _ (s.weight_le_weightSum i)

/-! ### The time that bytes take (R113) -/

@[simp] theorem transferTime_share_zero (bytes : Nat) : transferTime bytes 0 = none := if_pos rfl

theorem transferTime_eq_ceilDiv (bytes : Nat) {share : Nat} (h : 0 < share) :
    transferTime bytes share = some (bytes * 8 ⌈/⌉ share) := by
  rw [transferTime, if_neg h.ne', Nat.ceilDiv_eq_add_pred_div, Nat.add_sub_assoc h]

/-- At a share above 0 the time is the least one in which the share carries the bytes (R113). -/
theorem transferTime_least (bytes : Nat) {share : Nat} (h : 0 < share) :
    ∃ t, transferTime bytes share = some t ∧ bytes * 8 ≤ t * share ∧ ∀ u, bytes * 8 ≤ u * share → t ≤ u := by
  have hleast (u : Nat) : bytes * 8 ⌈/⌉ share ≤ u ↔ bytes * 8 ≤ u * share := by
    rw [ceilDiv_le_iff_le_mul h, Nat.mul_comm share]
  exact ⟨_, transferTime_eq_ceilDiv bytes h, (hleast _).mp le_rfl, fun u => (hleast u).mpr⟩

/-- An unbounded time is within no limit (R113). -/
theorem timeWithin_iff (time : Option Nat) (limit : Nat) : timeWithin time limit = true ↔ ∃ t, time = some t ∧ t ≤ limit := by
  cases time <;> simp [timeWithin]

/-- Settles O49: the weights are added over the demand set, and the predicted time is the transfer time of the predicted size. -/
theorem sharesAndPredictions : Obligations.SharesAndPredictions := by
  intro i s r k counted
  exact ⟨⟨s.weightSum i, rfl, s.demandSet i, s.nodup_demandSet i, s.mem_demandSet i, rfl⟩, s.share_le_estimate i, rfl,
    transferTime_share_zero _, fun share hshare => transferTime_least (r.predictedSize k) hshare⟩

end Sys2Proof.Machine

/-! SUPPORT and O51. The rung decision: the highest rung that a condition admits, the choice case by case and the constraint
(R114 to R122). -/

namespace Sys2Proof.Machine

open Sys2Proof

/-! ### The highest rung that qualifies (R113, R114, R116) -/

/-- A rung of `lo..hi` that is the highest there to qualify, or `lo` where none qualifies (R114, R116). -/
def IsHighestOrFloor (lo hi : Nat) (qualifies : Nat → Prop) (k : Nat) : Prop :=
  lo ≤ k ∧ k ≤ hi ∧ (∀ j, lo ≤ j → j ≤ hi → qualifies j → j ≤ k) ∧
    (qualifies k ∨ (k = lo ∧ ∀ j, lo ≤ j → j ≤ hi → ¬ qualifies j))

theorem mem_rungSpan {lo hi k : Nat} : k ∈ rungSpan lo hi ↔ lo ≤ k ∧ k ≤ hi := by
  simp [rungSpan, and_comm]

theorem rungSpan_ascending (lo hi : Nat) : (rungSpan lo hi).Pairwise (· < ·) := List.pairwise_lt_range.filter _

theorem le_of_highestRung {lo hi k j : Nat} {ok : Nat → Bool} (h : highestRung lo hi ok = some k) (hlo : lo ≤ j)
    (hhi : j ≤ hi) (hok : ok j = true) : j ≤ k := by
  obtain ⟨below, hspan⟩ := List.getLast?_eq_some_iff.mp h
  have hascending : (below ++ [k]).Pairwise (· < ·) := hspan ▸ (rungSpan_ascending lo hi).filter ok
  have hmem : j ∈ below ++ [k] := hspan ▸ List.mem_filter.mpr ⟨mem_rungSpan.mpr ⟨hlo, hhi⟩, hok⟩
  obtain hj | hj := List.mem_append.mp hmem
  · obtain ⟨_, _, hbefore⟩ := List.pairwise_append.mp hascending
    exact (hbefore j hj k (List.mem_singleton_self k)).le
  · exact (List.mem_singleton.mp hj).le

theorem not_of_highestRung_none {lo hi j : Nat} {ok : Nat → Bool} (h : highestRung lo hi ok = none) (hlo : lo ≤ j)
    (hhi : j ≤ hi) : ok j ≠ true :=
  List.filter_eq_nil_iff.mp (List.getLast?_eq_none_iff.mp h) j (mem_rungSpan.mpr ⟨hlo, hhi⟩)

theorem highestRung_getD_isHighestOrFloor {lo hi : Nat} (h : lo ≤ hi) (ok : Nat → Bool) :
    IsHighestOrFloor lo hi (fun k => ok k = true) ((highestRung lo hi ok).getD lo) := by
  cases hk : highestRung lo hi ok with
  | none =>
    have hnone : ∀ j, lo ≤ j → j ≤ hi → ¬ ok j = true := fun _ => not_of_highestRung_none hk
    exact ⟨le_rfl, h, fun j hlo hhi hok => absurd hok (hnone j hlo hhi), .inr ⟨rfl, hnone⟩⟩
  | some k =>
    obtain ⟨hlo, hhi, hok⟩ := highestRung_mem hk
    exact ⟨hlo, hhi, fun _ => le_of_highestRung hk, .inl hok⟩

namespace Session

section Choice

variable {r : Session} {share level fit need : Nat}

/-- The highest rung of floor..cap whose predicted time is within a limit, as R114 and R116 seek it. -/
theorem highestWithin (h : r.floor ≤ r.cap) (share limit : Nat) :
    IsHighestOrFloor r.floor r.cap (fun k => ∃ t, r.predictedTime share k = some t ∧ t ≤ limit)
      ((highestRung r.floor r.cap fun k => timeWithin (r.predictedTime share k) limit).getD r.floor) := by
  simpa only [timeWithin_iff] using
    highestRung_getD_isHighestOrFloor h fun k => timeWithin (r.predictedTime share k) limit

/-! ### The choice (R115 to R118) -/

theorem heldRung_eq (h : r.floor ≤ r.cap) : r.heldRung = max r.floor (min r.cap r.activeRung) := clamp_eq_max_min h

theorem rungChoice_share_zero (h : share = 0) : r.rungChoice share level fit need = r.floor := if_pos h

theorem rungChoice_lowZone (hshare : 0 < share) (hlow : level < r.markL) : r.rungChoice share level fit need =
    min (r.sustainableRung share fit) (min (r.guardRung share level) r.heldRung) := by
  rw [rungChoice, if_neg hshare.ne', if_pos hlow, min_assoc]

/-- From the low mark up a session whose sustainable rung is above its active one rises by one rung or holds (R117). -/
theorem rungChoice_mayRise (hshare : 0 < share) (hlevel : r.markL ≤ level) (habove : r.heldRung < r.sustainableRung share fit) :
    r.rungChoice share level fit need =
      if r.markT ≤ level ∧ need ≤ r.upHold then r.heldRung + 1 else r.heldRung := by
  rw [rungChoice, if_neg hshare.ne', if_neg hlevel.not_gt, if_pos habove]

/-- From the low mark up a session otherwise takes its sustainable rung (R118). -/
theorem rungChoice_sustained (hshare : 0 < share) (hlevel : r.markL ≤ level)
    (hbelow : r.sustainableRung share fit ≤ r.heldRung) :
    r.rungChoice share level fit need = r.sustainableRung share fit := by
  rw [rungChoice, if_neg hshare.ne', if_neg hlevel.not_gt, if_neg hbelow.not_gt]

/-- No choice is more than one rung above the active rung brought into floor..cap (R122). -/
theorem rungChoice_le_heldRung_succ (h : r.floor ≤ r.cap) (share level fit need : Nat) :
    r.rungChoice share level fit need ≤ r.heldRung + 1 := by
  obtain hzero | hshare := Nat.eq_zero_or_pos share
  · rw [rungChoice_share_zero hzero]
    exact (clamp_ge h).trans (Nat.le_succ _)
  obtain hlow | hlevel := Nat.lt_or_ge level r.markL
  · rw [rungChoice_lowZone hshare hlow]
    omega
  obtain habove | hbelow := Nat.lt_or_ge r.heldRung (r.sustainableRung share fit)
  · rw [rungChoice_mayRise hshare hlevel habove]
    split_ifs <;> omega
  · rw [rungChoice_sustained hshare hlevel hbelow]
    omega

end Choice

/-! ### The constraint (R121, R122) -/

section Order

variable {r : Session} {choice k : Nat}

theorem orderRung_unlimited (h : r.rungLimit = none) : r.orderRung choice = choice := by rw [orderRung, h]

theorem orderRung_atMost (h : r.rungLimit = some (.atMost k)) : r.orderRung choice = min choice (max k r.floor) := by
  rw [orderRung, h]

theorem orderRung_exact (h : r.rungLimit = some (.exact k)) :
    r.orderRung choice = min (clamp r.floor r.cap k) (r.heldRung + 1) := by rw [orderRung, h]

/-- The constraint keeps a choice within floor..cap and at most one rung above the active one so brought (R122). -/
theorem orderRung_mem (h : r.floor ≤ r.cap) (hfloor : r.floor ≤ choice) (hcap : choice ≤ r.cap)
    (hheld : choice ≤ r.heldRung + 1) :
    r.floor ≤ r.orderRung choice ∧ r.orderRung choice ≤ r.cap ∧ r.orderRung choice ≤ r.heldRung + 1 := by
  cases hlimit : r.rungLimit with
  | none => rw [orderRung_unlimited hlimit]; exact ⟨hfloor, hcap, hheld⟩
  | some limit =>
    cases limit with
    | atMost k => rw [orderRung_atMost hlimit]; omega
    | exact k =>
      have hactive : r.floor ≤ r.heldRung := clamp_ge h
      have hexact : r.floor ≤ clamp r.floor r.cap k ∧ clamp r.floor r.cap k ≤ r.cap := ⟨clamp_ge h, clamp_le h⟩
      rw [orderRung_exact hlimit]
      omega

end Order

end Session

/-- Settles O51: the record is `State.newRecord`'s own, the choice is the first case of R116 to R118 that applies, and what the
constraint makes of it stays in bounds by `Session.orderRung_mem`. -/
theorem rungDecision : Obligations.RungDecision := by
  refine ⟨fun i k s => ⟨rfl, rfl⟩, fun r share level fit need h => ?_⟩
  intro a within highest choice
  have ha : a = r.heldRung := (Session.heldRung_eq h).symm
  obtain ⟨hfloor, hcap⟩ := Session.rungChoice_mem h share level fit need
  rw [ha]
  refine ⟨r.sustainableRung share fit, r.guardRung share level, Session.highestWithin h _ _, Session.highestWithin h _ _,
    Session.rungChoice_share_zero, Session.rungChoice_lowZone, fun hshare hlevel habove hrise => ?_,
    fun hshare hlevel habove hhold => ?_, Session.rungChoice_sustained, Session.orderRung_unlimited,
    fun _ => Session.orderRung_atMost, fun k hlimit => ?_,
    Session.orderRung_mem h hfloor hcap (Session.rungChoice_le_heldRung_succ h share level fit need)⟩
  · exact (Session.rungChoice_mayRise hshare hlevel habove).trans (if_pos hrise)
  · exact (Session.rungChoice_mayRise hshare hlevel habove).trans (if_neg hhold)
  · rw [Session.orderRung_exact hlimit, clamp_eq_max_min h]

end Sys2Proof.Machine

/-! O55. The ACTIVE count over every move, beside the slots, the records and the queue (R56, R82, R87, R127, R131, R143). -/

namespace Sys2Proof.Machine

open Sys2Proof

/-! ### The ACTIVE count (R87) -/

theorem LinkMeter.activeCount_activeUp (m : LinkMeter) (now : PartTime) :
    (m.activeUp now).activeCount = m.activeCount + 1 := by
  unfold LinkMeter.activeUp
  split
  · next hzero => rw [hzero]
  · rfl

theorem LinkMeter.activeCount_activeDown (m : LinkMeter) (now : PartTime) :
    (m.activeDown now).activeCount = m.activeCount - 1 := by
  unfold LinkMeter.activeDown
  split
  · next hone => rw [hone]
  · rfl

theorem LinkMeter.activeCount_endWindow (m : LinkMeter) (c : Settings) (code : Code) (now : PartTime) :
    (m.endWindow c code now).activeCount = m.activeCount := by
  unfold LinkMeter.endWindow LinkMeter.estimate
  dsimp only
  split
  · split <;> rfl
  · split <;> rfl

/-- A count over all sessions changes with the one session of which it changes. -/
theorem countP_all_change {p q : SessionId → Bool} (i : SessionId) (h : ∀ j, j ≠ i → q j = p j) :
    Idx4.all.countP q + (p i).toNat = Idx4.all.countP p + (q i).toNat := by
  obtain ⟨before, after, hall⟩ := List.append_of_mem i.mem_all
  have hnodup := Idx4.nodup_all
  rw [hall, List.nodup_middle, List.nodup_cons, List.mem_append, not_or] at hnodup
  obtain ⟨⟨hbefore, hafter⟩, _⟩ := hnodup
  have hsame : ∀ l : List SessionId, i ∉ l → l.countP q = l.countP p := fun l hl =>
    List.countP_congr fun j hj => by rw [h j (ne_of_mem_of_not_mem hj hl)]
  have hat : ∀ b : Bool, (if b = true then 1 else 0) = b.toNat := by decide
  rw [hall, List.countP_append, List.countP_append, List.countP_cons, List.countP_cons, hsame before hbefore,
    hsame after hafter, hat, hat]
  omega

namespace ActiveCountMatches

variable {s t : State} {i : SessionId} {f : FetchRecord}

theorem keep (hs : ActiveCountMatches s) (hcount : t.meter.activeCount = s.meter.activeCount)
    (hactive : ∀ j, (t.session j).fetchActive = (s.session j).fetchActive) : ActiveCountMatches t := by
  unfold ActiveCountMatches
  simp only [hcount, hactive]
  exact hs

/-- One session's record becomes ACTIVE or leaves ACTIVE, and the count with it. -/
theorem change (hs : ActiveCountMatches s) (i : SessionId)
    (hother : ∀ j, j ≠ i → (t.session j).fetchActive = (s.session j).fetchActive)
    (hcount : t.meter.activeCount + (s.session i).fetchActive.toNat = s.meter.activeCount + (t.session i).fetchActive.toNat) :
    ActiveCountMatches t := by
  have hchange := countP_all_change (p := fun j => (s.session j).fetchActive)
    (q := fun j => (t.session j).fetchActive) i hother
  unfold ActiveCountMatches at hs ⊢
  omega

theorem fetchActive_of_some {r : Session} (hf : r.fetch = some f) : r.fetchActive = (f.state == .active) := by
  rw [Session.fetchActive, hf]
  rfl

theorem fetchActive_of_none {r : Session} (hf : r.fetch = none) : r.fetchActive = false := by
  rw [Session.fetchActive, hf]
  rfl

/-- An ACTIVE record is counted. -/
theorem pos (hs : ActiveCountMatches s) (hf : (s.session i).fetch = some f) (hactive : f.state = .active) :
    0 < s.meter.activeCount := by
  rw [hs, List.countP_pos_iff]
  exact ⟨i, i.mem_all, by rw [fetchActive_of_some hf, hactive]; rfl⟩

/-- A record ended leaves the count if it was in it (R87, R157). -/
theorem ended (hs : ActiveCountMatches s) (hf : (s.session i).fetch = some f) (why : Option CancelReason)
    (hmeter : t.meter = (s.endRecord i why).meter)
    (hother : ∀ j, j ≠ i → t.session j = (s.endRecord i why).session j) (hnone : (t.session i).fetch = none) :
    ActiveCountMatches t := by
  refine hs.change i (fun j hj => by rw [hother j hj, s.session_endRecord_other why hj]) ?_
  rw [fetchActive_of_none hnone, fetchActive_of_some hf, hmeter, State.endRecord_eq _ _ _ _ hf]
  cases hstate : f.state with
  | ordered => rw [if_neg FetchState.noConfusion]; rfl
  | active =>
    have hpos := hs.pos hf hstate
    rw [if_pos rfl, LinkMeter.activeCount_activeDown]
    exact Nat.sub_add_cancel hpos

end ActiveCountMatches

/-- Every move keeps the count with the records (R87, R145, R149, R150, R157). -/
theorem Move.activeCountMatches {s t : State} (h : Move s t) (hwaits : WaitsOrFetches s) (hs : ActiveCountMatches s) :
    ActiveCountMatches t := by
  cases h with
  | aside h => exact hs.keep (by rw [h.meter]) fun j => by rw [h.session j]; rfl
  | tick | settings | clearEstimator => exact hs
  | append i | remove i => exact hs
  | window => exact hs.keep (s.meter.activeCount_endWindow _ _ _) fun _ => rfl
  | grant i k hqueued =>
    refine hs.keep rfl fun j => ?_
    rw [State.session_createRecord]
    split
    · next hj =>
      subst hj
      rw [ActiveCountMatches.fetchActive_of_none (hwaits.queuedNoFetch j hqueued)]
      rfl
    · rfl
  | ended i f why hf => exact hs.ended hf why rfl (fun _ _ => rfl) (by rw [State.session_endRecord_same])
  | displaced i f why hf =>
    exact hs.ended hf why rfl (fun _ _ => rfl) (congrArg Session.fetch (s.session_endRecord_same i why))
  | completed i f total hf =>
    refine hs.ended hf none rfl (fun j hj => State.session_setSession_other _ _ hj) ?_
    rw [State.session_setSession_same]
    exact Session.fetch_completed _ _ _ _
  | failed i f why hf =>
    refine hs.ended hf why rfl (fun j hj => State.session_setSession_other _ _ hj) ?_
    rw [State.session_setSession_same]
    exact Session.fetch_failed _ _
  | activated i f expected expiry hf hstate =>
    refine hs.change i (fun j hj => congrArg Session.fetchActive (State.session_setSession_other _ _ hj)) ?_
    have hnow : ∀ g : FetchRecord, (((s.setFetch i g).setMeter (s.meter.activeUp s.partTime)).session i).fetch = some g :=
      fun g => congrArg Session.fetch (s.session_updSession_same i fun r => { r with fetch := some g })
    rw [ActiveCountMatches.fetchActive_of_some hf, ActiveCountMatches.fetchActive_of_some (hnow _), hstate]
    exact s.meter.activeCount_activeUp _
  | received i f received expected expiry hf =>
    refine hs.keep rfl fun j => ?_
    rw [State.setFetch, State.session_updSession]
    split
    · next hj => subst hj; rw [ActiveCountMatches.fetchActive_of_some hf]; rfl
    · rfl
  | written i r h =>
    obtain ⟨hall, _⟩ := (waitsOrFetches_iff s).mp hwaits
    refine hs.keep rfl fun j => ?_
    rw [State.session_setSession]
    split
    · next hj => subst hj; rw [Session.fetchActive, h.fetch (hall j)]; rfl
    · rfl

theorem Move.slotsConsistent {s t : State} (h : Move s t) (hs : SlotsConsistent s) : SlotsConsistent t := by
  obtain ⟨hwaits, hslots⟩ := hs
  exact ⟨h.waitsOrFetches hwaits, h.slotsMatch hwaits hslots⟩

theorem LevelInvariant.slotsConsistent {s : State} (h : LevelInvariant s) : SlotsConsistent s := by
  obtain ⟨_, hslots, _⟩ := h
  exact hslots

/-- Settles O55: every move keeps the slots, the records and the queue together, and the count with the records. -/
theorem slotsAndRecordsKept : Obligations.SlotsAndRecordsKept :=
  keptByStep_of_moves
    (fun _ _ ⟨hconsistent, hcount⟩ h => ⟨h.slotsConsistent hconsistent, h.activeCountMatches hconsistent.1 hcount⟩)
    (fun s => ⟨s.held_levelInvariant.slotsConsistent, rfl⟩)
    fun s baudHigh => ⟨(s.release_levelInvariant baudHigh).slotsConsistent, rfl⟩

end Sys2Proof.Machine

/-! SUPPORT. Who waits and who wants a fetch: the queue holds just the sessions that want one over every act of the arbiter
(R129 to R131, R133, R135, R140). -/

namespace Sys2Proof.Machine

open Sys2Proof

/-! ### Wanting (R40, R129) -/

theorem Session.segmentAvailable_iff (r : Session) : r.segmentAvailable = true ↔
    (r.live = true ∧ r.nextSegment ≤ r.liveEdge) ∨
      (r.live = false ∧ ∃ l, r.lastSegment = some l ∧ r.nextSegment ≤ l) := by
  unfold Session.segmentAvailable
  cases r.live with
  | true => simp
  | false => cases r.lastSegment <;> simp

/-- Which sessions want a fetch, by their state and level (R129). -/
theorem State.wants_iff (s : State) (i : SessionId) : s.wants i = true ↔
    (s.session i).fetch = none ∧ (s.session i).segmentAvailable = true ∧
      ((s.session i).state = .priming ∨ (s.session i).state = .stalled ∨
        (((s.session i).state = .primed ∨ (s.session i).state = .playing ∨ (s.session i).state = .paused) ∧
          s.level i + (s.session i).segmentMs ≤ (s.session i).markH)) := by
  simp only [State.wants, Bool.and_eq_true, Option.isNone_iff_eq_none]
  cases (s.session i).state <;> simp [and_comm, and_assoc]

theorem State.wants_of_fetch {s : State} {i : SessionId} {f : FetchRecord} (hf : (s.session i).fetch = some f) :
    s.wants i = false := Bool.eq_false_iff.mpr fun h => by
  obtain ⟨hnone, _⟩ := State.wants_imp h
  exact absurd (hf.symm.trans hnone) nofun

/-! ### One entry more or less (R131) -/

theorem State.isQueued_appendEntry (s : State) (i j : SessionId) :
    (s.appendEntry i).isQueued j = (s.isQueued j || i == j) := by
  simp [State.isQueued, State.appendEntry]

theorem State.isQueued_prependEntry (s : State) (i j : SessionId) :
    (s.prependEntry i).isQueued j = (i == j || s.isQueued j) := by
  simp [State.isQueued, State.prependEntry]

theorem State.isQueued_endRecord (s : State) (i j : SessionId) (why : Option CancelReason) :
    (s.endRecord i why).isQueued j = s.isQueued j := State.isQueued_congr (by rw [State.queue_endRecord]) j

/-! ### A session in its place (R130, R131) -/

/-- Session `i`'s part of `QueueIsWanting`. -/
def State.placed (s : State) (i : SessionId) : Prop :=
  (s.isQueued i = true → s.wants i = true) ∧
    (s.wants i = true → s.isQueued i = true ∨ (s.session i).refillExpiry = some s.partTime)

theorem queueIsWanting_iff (s : State) : QueueIsWanting s ↔ ∀ i, s.placed i := Iff.rfl

theorem State.placed_of_eq {s : State} {i : SessionId} (h : s.isQueued i = s.wants i) : s.placed i :=
  ⟨fun hq => h ▸ hq, fun hw => .inl (h.symm ▸ hw)⟩

/-- A session that holds a record does not wait. -/
theorem State.placed.not_queued {s : State} {i : SessionId} (h : s.placed i) {f : FetchRecord}
    (hf : (s.session i).fetch = some f) : s.isQueued i = false := Bool.eq_false_iff.mpr fun hq => by
  obtain ⟨hwants, _⟩ := h
  exact absurd ((State.wants_of_fetch hf).symm.trans (hwants hq)) nofun

/-- The arbiter finds session `j` waiting and wanting as before, and a refill expiry that was due is due. -/
structure SeenAlike (j : SessionId) (s t : State) : Prop where
  queued : t.isQueued j = s.isQueued j
  wants : t.wants j = s.wants j
  due : (s.session j).refillExpiry = some s.partTime → (t.session j).refillExpiry = some t.partTime

namespace SeenAlike

variable {j : SessionId} {s t u : State}

theorem trans (h : SeenAlike j s t) (k : SeenAlike j t u) : SeenAlike j s u :=
  ⟨k.queued.trans h.queued, k.wants.trans h.wants, fun hdue => k.due (h.due hdue)⟩

theorem placed (h : SeenAlike j s t) (hs : s.placed j) : t.placed j := by
  obtain ⟨hqueued, hwants⟩ := hs
  unfold State.placed
  rw [h.queued, h.wants]
  exact ⟨hqueued, fun hw => (hwants hw).imp_right h.due⟩

/-- The same record, but for its skip count, at the same part time. -/
theorem ofSession (hqueued : t.isQueued j = s.isQueued j) (htime : t.partTime = s.partTime)
    (hsession : t.session j = { s.session j with skipCount := (t.session j).skipCount }) : SeenAlike j s t := by
  refine ⟨hqueued, ?_, ?_⟩
  · unfold State.wants State.level
    rw [hsession, htime]
    rfl
  · rw [hsession, htime]
    exact id

theorem ofSame (hqueued : t.isQueued j = s.isQueued j) (htime : t.partTime = s.partTime)
    (hsession : t.session j = s.session j) : SeenAlike j s t := ofSession hqueued htime (by rw [hsession])

theorem endRecord (s : State) {i j : SessionId} (hj : j ≠ i) (why : Option CancelReason) :
    SeenAlike j s (s.endRecord i why) :=
  ofSame (s.isQueued_endRecord i j why) (s.partTime_endRecord i why) (s.session_endRecord_other why hj)

theorem removeEntry (s : State) {i j : SessionId} (hj : j ≠ i) : SeenAlike j s (s.removeEntry i) :=
  ofSame (by rw [State.isQueued_removeEntry, bne_iff_ne.mpr hj, Bool.true_and]) rfl rfl

theorem appendEntry (s : State) {i j : SessionId} (hj : j ≠ i) : SeenAlike j s (s.appendEntry i) :=
  ofSame (by rw [State.isQueued_appendEntry, beq_false_of_ne hj.symm, Bool.or_false]) rfl rfl

theorem prependEntry (s : State) {i j : SessionId} (hj : j ≠ i) : SeenAlike j s (s.prependEntry i) :=
  ofSame (by rw [State.isQueued_prependEntry, beq_false_of_ne hj.symm, Bool.false_or]) rfl rfl

theorem setSession (s : State) {i j : SessionId} (hj : j ≠ i) (r : Session) : SeenAlike j s (s.setSession i r) :=
  ofSame rfl rfl (s.session_setSession_other r hj)

theorem aside (h : Aside s t) (j : SessionId) : SeenAlike j s t :=
  ofSession (State.isQueued_congr h.queue j) h.partTime (h.session j)

end SeenAlike

/-! ### The acts of the arbiter (R133, R135, R140) -/

/-- A session granted has left the queue and wants no more (R145). -/
theorem QueueIsWanting.grant {s : State} (hs : QueueIsWanting s) (i : SessionId) (k : SlotId) :
    QueueIsWanting ((s.removeEntry i).createRecord i k) := by
  intro j
  by_cases hj : j = i
  · subst hj
    have hfetch : (((s.removeEntry j).createRecord j k).session j).fetch = some ((s.removeEntry j).newRecord j k) := by
      rw [State.session_createRecord, if_pos rfl]
    have hqueued : ((s.removeEntry j).createRecord j k).isQueued j = (s.removeEntry j).isQueued j := rfl
    refine State.placed_of_eq ?_
    rw [hqueued, State.isQueued_removeEntry, bne_self_eq_false, Bool.false_and, State.wants_of_fetch hfetch]
  · have hseen : SeenAlike j (s.removeEntry i) ((s.removeEntry i).createRecord i k) :=
      .ofSame rfl rfl (by rw [State.session_createRecord, if_neg hj])
    exact ((SeenAlike.removeEntry s hj).trans hseen).placed (hs j)

theorem QueueIsWanting.grantUpTo {s : State} (hs : QueueIsWanting s) (n : Nat) : QueueIsWanting (s.grantUpTo n) := by
  induction n generalizing s with
  | zero => exact hs
  | succ n ih =>
    rw [State.grantUpTo]
    split
    · next t ht =>
      obtain ⟨_, k, i, _, _, rfl⟩ := State.grantOnce_eq_some ht
      exact ih (hs.grant i k)
    · exact hs

theorem QueueIsWanting.grantAll {s : State} (hs : QueueIsWanting s) : QueueIsWanting s.grantAll := hs.grantUpTo _

/-- A victim that still wants a fetch waits again (R140). -/
theorem QueueIsWanting.preempt {s : State} (hs : QueueIsWanting s) (i : SessionId) {victim : SessionId} {f : FetchRecord}
    (hf : (s.session victim).fetch = some f) : QueueIsWanting (s.preempt i victim) := by
  have hmarked : QueueIsWanting (s.markPreemptionUsed i) := fun j =>
    (SeenAlike.aside (.markPreemptionUsed s i) j).placed (hs j)
  have hnot : ((s.markPreemptionUsed i).endRecord victim (some .preempt)).isQueued victim = false := by
    rw [State.isQueued_endRecord]
    exact State.placed.not_queued (hmarked victim) hf
  have hother : ∀ j, j ≠ victim → ((s.markPreemptionUsed i).endRecord victim (some .preempt)).placed j := fun j hj =>
    (SeenAlike.endRecord _ hj _).placed (hmarked j)
  unfold State.preempt
  dsimp only
  generalize (s.markPreemptionUsed i).endRecord victim (some .preempt) = e at hnot hother
  refine QueueIsWanting.grantAll fun j => ?_
  split
  · next hwants =>
    by_cases hj : j = victim
    · subst hj
      refine State.placed_of_eq ?_
      rw [State.isQueued_prependEntry, beq_self_eq_true, Bool.true_or]
      exact hwants.symm
    · exact (SeenAlike.prependEntry e hj).placed (hother j hj)
  · next hwants =>
    by_cases hj : j = victim
    · subst hj
      exact State.placed_of_eq (hnot.trans (Bool.eq_false_iff.mpr hwants).symm)
    · exact hother j hj

theorem QueueIsWanting.considerPreemption {s : State} (hs : QueueIsWanting s) (i : SessionId) :
    QueueIsWanting (s.considerPreemption i) := by
  unfold State.considerPreemption
  split
  · next victim hvictim =>
    obtain ⟨f, hf⟩ := State.preemptionVictim_fetch hvictim
    exact hs.preempt i hf
  · exact hs

theorem QueueIsWanting.considerAll {s : State} (hs : QueueIsWanting s) : QueueIsWanting s.considerAll :=
  List.foldlRecOn s.urgentOrder State.considerPreemption hs fun _ ht i _ => QueueIsWanting.considerPreemption ht i

/-- A re-examination puts its session in its place, whatever has been written of it (R130). -/
theorem QueueIsWanting.reexamine {s : State} {i : SessionId} (hs : ∀ j, j ≠ i → s.placed j) (wasUrgent freed : Bool) :
    QueueIsWanting (s.reexamine i wasUrgent freed) := by
  have hplaced : ∀ {t : State}, (∀ j, j ≠ i → SeenAlike j s t) → t.isQueued i = t.wants i → QueueIsWanting t :=
    fun {t} hseen hi j => by
      by_cases hj : j = i
      · subst hj; exact State.placed_of_eq hi
      · exact (hseen j hj).placed (hs j hj)
  unfold State.reexamine State.joins
  split
  · next hjoins =>
    obtain ⟨hwants, _⟩ := Bool.and_eq_true_iff.mp hjoins
    have happended : QueueIsWanting (s.appendEntry i) := hplaced (fun j hj => SeenAlike.appendEntry s hj) <| by
      rw [State.isQueued_appendEntry, beq_self_eq_true, Bool.or_true]
      exact hwants.symm
    dsimp only
    split
    · exact happended.grantAll.considerPreemption i
    · exact happended.grantAll
  · next hjoins =>
    have hleft : QueueIsWanting (if s.isQueued i && !s.wants i then s.removeEntry i else s) := by
      split
      · next hleaves =>
        obtain ⟨_, hnot⟩ := Bool.and_eq_true_iff.mp hleaves
        have hnot : s.wants i = false := by simpa using hnot
        refine hplaced (fun j hj => SeenAlike.removeEntry s hj) ?_
        rw [State.isQueued_removeEntry, bne_self_eq_false, Bool.false_and]
        exact hnot.symm
      · next hstays =>
        refine hplaced (fun j _ => .ofSame rfl rfl rfl) ?_
        cases hq : s.isQueued i <;> cases hw : s.wants i <;> simp [hq, hw] at hjoins hstays ⊢
    generalize (if s.isQueued i && !s.wants i then s.removeEntry i else s) = t at hleft
    have hgranted : QueueIsWanting (if freed then t.grantAll else t) := by
      split
      · exact hleft.grantAll
      · exact hleft
    dsimp only
    generalize (if freed = true then t.grantAll else t) = u at hgranted ⊢
    split
    · exact hgranted.considerPreemption i
    · exact hgranted

end Sys2Proof.Machine

/-! SUPPORT. What an event leaves of granting and waiting: nothing left to grant at its end, and each session in its place
(R129 to R131, R135). -/

namespace Sys2Proof.Machine

open Sys2Proof

/-! ### What the arbiter finds as before -/

theorem State.queue_eq_nil_iff (s : State) : s.arbiter.queue = [] ↔ ∀ i, s.isQueued i = false := by
  simp only [Bool.eq_false_iff, ne_eq, State.isQueued_iff]
  exact ⟨fun h i ⟨e, he, _⟩ => by simp [h] at he, fun h => List.eq_nil_iff_forall_not_mem.mpr fun e he => h _ ⟨e, he, rfl⟩⟩

theorem State.freeSlot_congr {s t : State} (hslots : t.arbiter.slots = s.arbiter.slots)
    (hcount : t.settings.slotCount = s.settings.slotCount) : t.freeSlot = s.freeSlot := by
  simp only [State.freeSlot, State.pool, hslots, hcount]

/-- Beside session `but`, if one is named, the arbiter finds the state as before; no entry has joined, and no slot has been
freed unless `freed` says so. -/
structure Beside (but : Option SessionId) (freed : Bool) (s t : State) : Prop where
  slotCount : t.settings.slotCount = s.settings.slotCount
  hold : t.arbiter.hold = s.arbiter.hold
  accepted : t.contention.accepted = s.contention.accepted
  slots : freed = false → t.arbiter.slots = s.arbiter.slots
  queue : ∀ j, t.isQueued j = true → s.isQueued j = true
  seen : ∀ j, but ≠ some j → SeenAlike j s t

namespace Beside

variable {but : Option SessionId} {freed : Bool} {s t u : State} {i : SessionId}

theorem trans (h : Beside but freed s t) (k : Beside but freed t u) : Beside but freed s u where
  slotCount := k.slotCount.trans h.slotCount
  hold := k.hold.trans h.hold
  accepted := k.accepted.trans h.accepted
  slots := fun hf => (k.slots hf).trans (h.slots hf)
  queue := fun j hj => h.queue j (k.queue j hj)
  seen := fun j hj => (h.seen j hj).trans (k.seen j hj)

theorem aside (h : Aside s t) (hhold : t.arbiter.hold = s.arbiter.hold)
    (haccepted : t.contention.accepted = s.contention.accepted) : Beside but freed s t where
  slotCount := by rw [h.settings]
  hold := hhold
  accepted := haccepted
  slots := fun _ => h.slots
  queue := fun j hj => (State.isQueued_congr h.queue j).symm.trans hj
  seen := fun j _ => .aside h j

theorem updNotices (s : State) (i : SessionId) (f : NoticeSet → NoticeSet) : Beside but freed s (s.updNotices i f) :=
  aside (.setLink s _) rfl rfl

theorem setMeter (s : State) (m : LinkMeter) : Beside but freed s (s.setMeter m) :=
  ⟨rfl, rfl, rfl, fun _ => rfl, fun _ => id, fun _ _ => .ofSame rfl rfl rfl⟩

theorem withControl (s : State) (i : SessionId) (r : Session) (n : NoticeSet) :
    Beside (some i) freed s (s.withControl i r n) where
  slotCount := rfl
  hold := rfl
  accepted := rfl
  slots := fun _ => rfl
  queue := fun _ => id
  seen := fun j hj => .ofSame rfl rfl (by rw [State.session_withControl, if_neg fun h => hj (congrArg some h).symm])

theorem setSession (s : State) (i : SessionId) (r : Session) : Beside (some i) freed s (s.setSession i r) :=
  s.withControl_keep i r ▸ withControl s i r _

theorem updSession (s : State) (i : SessionId) (f : Session → Session) : Beside (some i) freed s (s.updSession i f) :=
  setSession s i _

theorem examinePriming (s : State) (i : SessionId) : Beside (some i) freed s (s.examinePriming i) := by
  rw [State.examinePriming_control]
  exact withControl s i _ _

theorem removeEntry (s : State) (i : SessionId) : Beside (some i) freed s (s.removeEntry i) where
  slotCount := rfl
  hold := rfl
  accepted := rfl
  slots := fun _ => rfl
  queue := fun j hj => by
    rw [State.isQueued_removeEntry, Bool.and_eq_true] at hj
    exact hj.2
  seen := fun j hj => .removeEntry s fun h => hj (congrArg some h).symm

/-- A record's ending frees its slot (R157). -/
theorem endRecord (s : State) (i : SessionId) (why : Option CancelReason)
    (h : freed = true ∨ (s.session i).fetch = none) : Beside (some i) freed s (s.endRecord i why) := by
  have hseen : ∀ j, some i ≠ some j → SeenAlike j s (s.endRecord i why) := fun j hj =>
    .endRecord s (fun h => hj (congrArg some h).symm) why
  cases hf : (s.session i).fetch with
  | none =>
    rw [State.endRecord_none _ _ _ hf] at hseen ⊢
    exact ⟨rfl, rfl, rfl, fun _ => rfl, fun _ => id, hseen⟩
  | some f =>
    have hfreed : freed = true := h.resolve_right (by simp [hf])
    rw [State.endRecord_eq _ _ _ _ hf] at hseen ⊢
    exact ⟨rfl, rfl, rfl, fun hnot => absurd (hfreed.symm.trans hnot) nofun, fun _ => id, hseen⟩

theorem abandon (s : State) (i : SessionId) (rung : Nat) : Beside (some i) true s (s.abandon i rung) :=
  (endRecord s i _ (.inl rfl)).trans (updSession _ i _)

theorem handleFailure (s : State) (i : SessionId) (f : FetchRecord) : Beside (some i) freed s (s.handleFailure i f) := by
  unfold State.handleFailure
  dsimp only
  split
  · exact setSession s i _
  · split
    · exact (setSession s i _).trans (updNotices _ i _)
    · unfold State.enterFault
      exact ((updSession s i _).trans (removeEntry _ i)).trans (updNotices _ i _)

theorem shut (s : State) (i : SessionId) (h : freed = true ∨ (s.session i).fetch = none) :
    Beside (some i) freed s (s.shut i) :=
  (((endRecord s i none h).trans (removeEntry _ i)).trans (updNotices _ i _)).trans (updSession _ i _)

/-- A session's record written, of which the arbiter sees nothing. -/
theorem unseen {r : Session} (hwants : (s.setSession i r).wants i = s.wants i)
    (hrefill : r.refillExpiry = (s.session i).refillExpiry) : Beside none freed s (s.setSession i r) where
  slotCount := rfl
  hold := rfl
  accepted := rfl
  slots := fun _ => rfl
  queue := fun _ => id
  seen := fun j _ => by
    by_cases hj : j = i
    · subst hj
      exact ⟨rfl, hwants, fun hdue => by rw [State.session_setSession_same, hrefill]; exact hdue⟩
    · exact .setSession s hj r

/-- A record in place of another: its session neither wanted a fetch nor wants one now. -/
theorem setFetch {f : FetchRecord} (hf : (s.session i).fetch = some f) (g : FetchRecord) :
    Beside none freed s (s.setFetch i g) := by
  have hg : ((s.setFetch i g).session i).fetch = some g :=
    congrArg Session.fetch (s.session_updSession_same i fun r => { r with fetch := some g })
  exact unseen ((State.wants_of_fetch hg).trans (State.wants_of_fetch hf).symm) rfl

end Beside

theorem NothingToGrant.beside {but : Option SessionId} {s t : State} (h : Beside but false s t) (hs : NothingToGrant s) :
    NothingToGrant t := by
  unfold NothingToGrant
  rw [State.freeSlot_congr (h.slots rfl) h.slotCount, h.hold, h.accepted]
  refine hs.imp_right (.imp_left fun hnil => ?_)
  rw [State.queue_eq_nil_iff] at hnil ⊢
  exact fun j => Bool.eq_false_iff.mpr fun hj => absurd ((hnil j).symm.trans (h.queue j hj)) nofun

/-- A re-examination that joins an entry or finds a slot freed grants; any other leaves what there was to grant (R135). -/
theorem NothingToGrant.reexamine {s : State} {freed : Bool} (hs : freed = true ∨ NothingToGrant s) (i : SessionId)
    (wasUrgent : Bool) : NothingToGrant (s.reexamine i wasUrgent freed) := by
  have hconsider : ∀ {t : State} {c : Bool}, NothingToGrant t → NothingToGrant (if c then t.considerPreemption i else t) :=
    fun {t c} ht => by
      split
      · exact ht.considerPreemption i
      · exact ht
  unfold State.reexamine
  split
  · exact hconsider (State.grantAll_nothingToGrant _)
  · refine hconsider ?_
    cases freed with
    | true => exact State.grantAll_nothingToGrant _
    | false =>
      have hs := hs.resolve_left nofun
      rw [if_neg Bool.false_ne_true]
      split
      · exact NothingToGrant.beside (.removeEntry s i) hs
      · exact hs

theorem QueueIsWanting.beside {freed : Bool} {s t : State} (h : Beside none freed s t) (hs : QueueIsWanting s) :
    QueueIsWanting t := fun j => (h.seen j nofun).placed (hs j)

/-! ### The advance of part time (R25, R64, R129) -/

section Tick

variable {r : Session} {now : PartTime}

/-- The level of a PLAYING session falls by 1 (R60). -/
theorem Session.level_succ (hst : r.state = .playing) (hr : r.Sound now) : r.level (now + 1#32) = r.level now - 1 := by
  obtain ⟨_, hpast, _⟩ := hr.inTime hst
  have hmax := hr.counts.level
  rw [Session.level_of_playing hst, Session.level_of_playing hst, interval_succ (by omega), Nat.sub_add_eq]

/-- A further segment comes to fit below H just when the refill expiry is due (R64, R68). -/
theorem Session.refillExpiry_of_fits (hst : r.state = .playing) (hr : r.Sound now)
    (habove : r.markH < r.level now + r.segmentMs) (hfits : r.level (now + 1#32) + r.segmentMs ≤ r.markH) :
    r.refillExpiry = some (now + 1#32) := by
  rw [Session.level_succ hst hr] at hfits
  obtain ⟨_, hpast, _, _, _, hclear⟩ := hr.inTime hst
  obtain ⟨_, _, hstand⟩ := hr.stand
  have hmax := hr.counts.level
  have hlevel := Session.level_of_playing hst now
  have hdue : r.refillDue = some (later r.refTime (r.storedLevel - (r.markH - r.segmentMs))) :=
    if_pos ⟨hst, by omega⟩
  have hnext : r.storedLevel - (r.markH - r.segmentMs) = interval r.refTime (now + 1#32) := by
    rw [interval_succ (by omega)]
    omega
  rw [hnext, later_interval] at hdue
  refine (hstand.resolve_left fun hnone => ?_).trans hdue
  obtain hnot | hbelow := hclear hnone
  · exact absurd (hdue.symm.trans hnot) nofun
  · omega

end Tick

/-- With no level expiry due, each session stays in its place as part time advances (R129, R130). -/
theorem State.placed_tick {s : State} {i : SessionId} (hr : (s.session i).Sound s.partTime) (hdue : ¬ s.levelDue i)
    (h : s.placed i) : s.tick.placed i := by
  obtain ⟨hqueued, hwants⟩ := h
  simp only [State.levelDue, not_or] at hdue
  obtain ⟨_, _, hrefill⟩ := hdue
  have hold := s.wants_iff i
  have hnew : s.tick.wants i = true ↔ _ := s.tick.wants_iff i
  have hlevel : s.tick.level i = (s.session i).level (s.partTime + 1#32) := rfl
  have hsession : s.tick.session i = s.session i := rfl
  have htime : s.tick.partTime = s.partTime + 1#32 := rfl
  unfold State.placed
  rw [hlevel, hsession] at hnew
  rw [hsession, htime, show s.tick.isQueued i = s.isQueued i from rfl]
  by_cases hst : (s.session i).state = .playing
  · have hnext := Session.level_succ hst hr
    refine ⟨fun hq => ?_, fun hw => ?_⟩
    · obtain ⟨hfetch, havailable, hstate⟩ := hold.mp (hqueued hq)
      have hfits : s.level i + (s.session i).segmentMs ≤ (s.session i).markH := by simpa [hst] using hstate
      rw [State.level] at hfits
      exact hnew.mpr ⟨hfetch, havailable, .inr (.inr ⟨.inr (.inl hst), by omega⟩)⟩
    · obtain ⟨hfetch, havailable, hstate⟩ := hnew.mp hw
      have hfits : (s.session i).level (s.partTime + 1#32) + (s.session i).segmentMs ≤ (s.session i).markH := by
        simpa [hst] using hstate
      obtain hbelow | habove := Nat.lt_or_ge (s.session i).markH (s.level i + (s.session i).segmentMs)
      · exact .inr (Session.refillExpiry_of_fits hst hr hbelow hfits)
      · have hwanted : s.wants i = true := hold.mpr ⟨hfetch, havailable, .inr (.inr ⟨.inr (.inl hst), habove⟩)⟩
        exact .inl ((hwants hwanted).resolve_right hrefill)
  · have hsame : s.tick.wants i = s.wants i := by
      rw [Bool.eq_iff_iff, hnew, hold, State.level, Session.level_of_not_playing _ _ hst,
        Session.level_of_not_playing _ _ hst]
    rw [hsame]
    exact ⟨hqueued, fun hw => .inl ((hwants hw).resolve_right hrefill)⟩

theorem QueueIsWanting.tick {s : State} (hs : QueueIsWanting s) (hlevel : LevelInvariant s) (hdue : ∀ i, ¬ s.levelDue i) :
    QueueIsWanting s.tick := by
  obtain ⟨hsound, _⟩ := hlevel
  exact fun i => State.placed_tick (hsound i) (hdue i) (hs i)

/-! ### The examinations after a sample (R166, R170) -/

/-- A session in its place, or one of `list` that has no entry and will be examined for one. -/
def State.placedOr (s : State) (list : List SessionId) (i : SessionId) : Prop :=
  s.placed i ∨ (i ∈ list ∧ s.isQueued i = false)

theorem State.placedOr_of_seen {s t : State} {list : List SessionId} {i : SessionId} (h : SeenAlike i s t)
    (hs : s.placedOr list i) : t.placedOr list i :=
  hs.imp h.placed fun ⟨hi, hnot⟩ => ⟨hi, h.queued.trans hnot⟩

theorem State.placedOr_abandon {s : State} {list : List SessionId} {i : SessionId} (hi : i ∈ list) (rung : Nat)
    (hs : ∀ j, s.placedOr list j) (j : SessionId) : (s.abandon i rung).placedOr list j := by
  by_cases hj : j = i
  · subst hj
    have hqueued : (s.abandon j rung).isQueued j = s.isQueued j := s.isQueued_endRecord j j _
    obtain hplaced | ⟨_, hnot⟩ := hs j
    · cases hf : (s.session j).fetch with
      | some f => exact .inr ⟨hi, hqueued.trans (State.placed.not_queued hplaced hf)⟩
      | none =>
        have hwrite : s.abandon j rung =
            s.setSession j { s.session j with upHold := 0, rungLimit := some (.exact rung) } := by
          rw [State.abandon, State.endRecord_none _ _ _ hf]
          rfl
        have hwants : (s.abandon j rung).wants j = s.wants j := by
          simp only [hwrite, State.wants, State.level, State.session_setSession_same, State.setSession_partTime]
          rfl
        rw [hwrite] at hwants ⊢
        exact .inl (((Beside.unseen (freed := false) hwants rfl).seen j nofun).placed hplaced)
    · exact .inr ⟨hi, hqueued.trans hnot⟩
  · exact State.placedOr_of_seen ((Beside.abandon s i rung).seen j fun h => hj (Option.some.inj h).symm) (hs j)

theorem State.placedOr_foldl_abandon {list : List SessionId} (l : List (SessionId × Nat)) {s : State}
    (hl : ∀ a ∈ l, a.1 ∈ list) (hs : ∀ j, s.placedOr list j) (j : SessionId) :
    (l.foldl (fun t a => t.abandon a.1 a.2) s).placedOr list j := by
  induction l generalizing s with
  | nil => exact hs j
  | cons a l ih =>
    exact ih (fun b hb => hl b (List.mem_cons_of_mem _ hb)) (State.placedOr_abandon (hl a List.mem_cons_self) a.2 hs)

theorem State.placedOr_appendIfJoins {s : State} {i : SessionId} {list : List SessionId}
    (hs : ∀ j, s.placedOr (i :: list) j) (j : SessionId) : (s.appendIfJoins i).placedOr list j := by
  have hrest : ∀ {t : State}, SeenAlike j s t → j ≠ i → t.placedOr list j := fun hseen hj =>
    (State.placedOr_of_seen hseen (hs j)).imp_right fun ⟨hmem, hnot⟩ => ⟨(List.mem_cons.mp hmem).resolve_left hj, hnot⟩
  unfold State.appendIfJoins State.joins
  split
  · next hjoins =>
    by_cases hj : j = i
    · obtain ⟨hwants, _⟩ := Bool.and_eq_true_iff.mp hjoins
      refine .inl (State.placed_of_eq ?_)
      rw [State.isQueued_appendEntry, hj, beq_self_eq_true, Bool.or_true]
      exact hwants.symm
    · exact hrest (.appendEntry s hj) hj
  · next hjoins =>
    by_cases hj : j = i
    · refine .inl ((hs j).elim id fun ⟨_, hnot⟩ => State.placed_of_eq ?_)
      subst hj
      simpa [hnot] using hjoins
    · exact hrest (.ofSame rfl rfl rfl) hj

/-- Each session of a list examined for an entry is in its place (R130, R170). -/
theorem QueueIsWanting.foldl_appendIfJoins (l : List (SessionId × Nat)) {s : State}
    (hs : ∀ j, s.placedOr (l.map (·.1)) j) : QueueIsWanting (l.foldl (fun t a => t.appendIfJoins a.1) s) := by
  induction l generalizing s with
  | nil => exact fun j => (hs j).resolve_right fun ⟨hmem, _⟩ => absurd hmem List.not_mem_nil
  | cons a l ih => exact ih (State.placedOr_appendIfJoins hs)

theorem QueueIsWanting.examineAll {s : State} (hs : QueueIsWanting s) : QueueIsWanting s.examineAll := by
  unfold State.examineAll
  split
  · exact hs
  · next first rest _ =>
    have habandoned := State.placedOr_foldl_abandon (list := (first :: rest).map (·.1)) (first :: rest)
      (fun a ha => List.mem_map_of_mem ha) fun j => .inl (hs j)
    exact (QueueIsWanting.foldl_appendIfJoins _ habandoned).grantAll.considerAll

theorem NothingToGrant.examineAll {s : State} (hs : NothingToGrant s) : NothingToGrant s.examineAll := by
  unfold State.examineAll
  split
  · exact hs
  · exact (State.grantAll_nothingToGrant _).considerAll

end Sys2Proof.Machine

/-! O56. Every event ends with nothing left to grant and each session in its place (R129 to R131, R135). -/

namespace Sys2Proof.Machine

open Sys2Proof

/-! ### What moves keep -/

theorem Moves.keeps {inv : State → Prop} (hmove : ∀ s t, inv s → Move s t → inv t) {s t : State} (h : Moves s t)
    (hs : inv s) : inv t := by
  induction h with
  | refl => exact hs
  | tail _ k ih => exact hmove _ _ ih k

theorem Move.settingsInRange {s t : State} (h : Move s t) (hs : s.settings.inRange) : t.settings.inRange := by
  cases h with
  | aside h => rw [h.settings]; exact hs
  | settings c hrange => exact hrange
  | ended | displaced | failed | completed =>
    refine Eq.mpr (congrArg Settings.inRange ?_) hs
    exact State.settings_endRecord _ _ _
  | _ => exact hs

/-! ### An event, or a whole part of one -/

/-- From `s` to `t` by moves, and over them nothing is left to grant and each session stays in its place: what the arbiter does
for an event is complete. -/
structure ArbiterKept (s t : State) : Prop where
  moves : Moves s t
  granting : SlotsConsistent s → s.settings.inRange → NothingToGrant s → NothingToGrant t
  waiting : LevelInvariant s → QueueIsWanting s → QueueIsWanting t

namespace ArbiterKept

variable {s t u : State} {i : SessionId} {f : FetchRecord}

theorem refl (s : State) : ArbiterKept s s := ⟨.refl s, fun _ _ => id, fun _ => id⟩

theorem trans (h : ArbiterKept s t) (k : ArbiterKept t u) : ArbiterKept s u where
  moves := h.moves.trans k.moves
  granting := fun hslots hrange hs =>
    k.granting (h.moves.keeps (fun _ _ hs h => h.slotsConsistent hs) hslots)
      (h.moves.keeps (fun _ _ hs h => h.settingsInRange hs) hrange) (h.granting hslots hrange hs)
  waiting := fun hlevel hs =>
    k.waiting (h.moves.keeps (fun _ _ hs h => h.levelInvariant hs) hlevel) (h.waiting hlevel hs)

theorem ite {c : Prop} [Decidable c] (h : ArbiterKept s t) (k : ArbiterKept s u) :
    ArbiterKept s (if c then t else u) := by split <;> assumption

theorem foldl {α : Type} {step : State → α → State} (h : ∀ t a, ArbiterKept t (step t a)) (l : List α) (s : State) :
    ArbiterKept s (l.foldl step s) := by
  induction l generalizing s with
  | nil => exact refl s
  | cons a l ih => exact (h s a).trans (ih _)

/-- Writes of which the arbiter sees nothing. -/
theorem beside (hm : Moves s t) (h : Beside none false s t) : ArbiterKept s t :=
  ⟨hm, fun _ _ => NothingToGrant.beside h, fun _ => QueueIsWanting.beside h⟩

theorem aside (h : Aside s t) (hhold : t.arbiter.hold = s.arbiter.hold)
    (haccepted : t.contention.accepted = s.contention.accepted) : ArbiterKept s t :=
  beside ((Moves.refl s).aside h) (.aside h hhold haccepted)

/-- A session's own changes, after which the arbiter is handed it (R130, R135). -/
theorem handed {freed wasUrgent : Bool} (hm : Moves s (u.reexamine i wasUrgent freed)) (hu : Beside (some i) freed s u) :
    ArbiterKept s (u.reexamine i wasUrgent freed) where
  moves := hm
  granting := fun _ _ hs => NothingToGrant.reexamine (by
    cases freed with
    | true => exact .inl rfl
    | false => exact .inr (hs.beside hu)) i wasUrgent
  waiting := fun _ hs => QueueIsWanting.reexamine
    (fun j hj => (hu.seen j fun h => hj (Option.some.inj h).symm).placed (hs j)) wasUrgent freed

/-- A part of an event that ends with grants. -/
theorem granted (hm : Moves s t) (hgranted : NothingToGrant t) (hwaiting : QueueIsWanting s → QueueIsWanting t) :
    ArbiterKept s t := ⟨hm, fun _ _ _ => hgranted, fun _ => hwaiting⟩

theorem setLink (s : State) (l : ControlLink) : ArbiterKept s (s.setLink l) := aside (.setLink s l) rfl rfl

theorem ofChoice (h : ChoiceOnly s t) (k : Aside s t) : ArbiterKept s t := aside k (by rw [h.arbiter]) (by rw [h.contention])

theorem leaveIdle (s : State) : ArbiterKept s s.leaveIdle := ofChoice s.leaveIdle_only (.leaveIdle s)

/-! ### Fetches (R149 to R154, R156, R166 to R170) -/

theorem failFetch (s : State) (hf : (s.session i).fetch = some f) (why : Option CancelReason) :
    ArbiterKept s (s.failFetch i f why) :=
  handed (Moves.failFetch s hf why) ((Beside.endRecord s i why (.inl rfl)).trans (.handleFailure _ i f))

theorem complete (s : State) (hf : (s.session i).fetch = some f) (total : Nat) : ArbiterKept s (s.complete i f total) :=
  handed (Moves.complete s hf total) (((((Beside.setMeter s _).trans (.endRecord _ i none (.inl rfl))).trans
    (.updSession _ i _)).trans (.examinePriming _ i)).trans (.updSession _ i _))

theorem examineAfterProgress (s : State) (i : SessionId) : ArbiterKept s (s.examineAfterProgress i) := by
  have hm := (Moves.refl s).examineAfterProgress i
  revert hm
  unfold State.examineAfterProgress
  split
  · exact fun _ => refl s
  · exact fun hm => handed hm (.abandon s i _)

theorem activate (hf : (s.session i).fetch = some f) (hstate : f.state = .ordered) (expected : Nat) (expiry : PartTime) :
    ArbiterKept s (s.activate i { f with expected := expected, activityExpiry := expiry }) :=
  beside (Moves.activate s hf hstate expected expiry) ((Beside.setFetch hf _).trans (.setMeter _ _))

theorem serveStart (s : State) (i : SessionId) (tag : Byte) (size : Nat) : ArbiterKept s (s.serveStart i tag size).1 := by
  unfold State.serveStart
  split
  · exact refl s
  · next f hf =>
    split
    · next hstate => exact activate (State.matchReport_eq_some hf) hstate _ _
    · exact refl s

theorem advanceReceived (hf : (s.session i).fetch = some f) (count : Nat) : ArbiterKept s (s.advanceReceived i f count) :=
  beside (((Moves.refl s).aside (.creditBytes s _)).step (.received _ i f count _ _ hf))
    ((Beside.setMeter s _).trans (Beside.setFetch (s := s.creditBytes (count - f.received)) hf _))

theorem takeProgress (hf : (s.session i).fetch = some f) (count : Nat) : ArbiterKept s (s.takeProgress i f count) := by
  have hactive : ∀ {t : State}, ArbiterKept s t → (t.session i).fetch = some { f with state := .active } →
      ArbiterKept s (if f.received < count then
        (t.advanceReceived i { f with state := .active } count).examineAfterProgress i else t) := fun {t} ht hft =>
    .ite ((ht.trans (advanceReceived hft count)).trans (examineAfterProgress _ i)) ht
  unfold State.takeProgress
  cases hstate : f.state with
  | ordered =>
    rw [if_pos rfl]
    exact hactive (activate hf hstate f.expected f.activityExpiry)
      (congrArg Session.fetch (s.session_updSession_same i fun r => { r with fetch := some { f with state := .active } }))
  | active =>
    rw [if_neg (show ¬ FetchState.active = .ordered from nofun)]
    exact hactive (refl s) (hf.trans (by rw [← hstate]))

theorem serveProgress (s : State) (i : SessionId) (tag : Byte) (count : Nat) :
    ArbiterKept s (s.serveProgress i tag count).1 := by
  unfold State.serveProgress
  split
  · exact refl s
  · next f hf => exact takeProgress (State.matchReport_eq_some hf) count

theorem serveDone (s : State) (i : SessionId) (tag : Byte) (total : Nat) : ArbiterKept s (s.serveDone i tag total).1 := by
  have hnote : ∀ (t : State) (f : FetchRecord), ArbiterKept t (t.noteDone s i f) := fun t f =>
    aside (.noteDone t s i f) (by unfold State.noteDone; split <;> rfl) (by unfold State.noteDone; split <;> rfl)
  unfold State.serveDone
  split
  · exact refl s
  · next f hf => exact (complete s (State.matchReport_eq_some hf) _).trans (hnote _ f)

theorem serveFail (s : State) (i : SessionId) (tag : Byte) (reason : Nat) : ArbiterKept s (s.serveFail i tag reason).1 := by
  unfold State.serveFail
  split
  · exact refl s
  · next f hf =>
    split
    · exact failFetch s (State.matchReport_eq_some hf) none
    · exact refl s

/-! ### Playing, level and state (ch. 3, ch. 4) -/

theorem setSession {r : Session} (hr : Session.Written s i (s.session i) r)
    (hwants : (s.setSession i r).wants i = s.wants i) (hrefill : r.refillExpiry = (s.session i).refillExpiry) :
    ArbiterKept s (s.setSession i r) := beside ((Moves.refl s).setSession hr) (.unseen hwants hrefill)

/-- PLAY and PAUSE while PRIMING (R73). -/
theorem autostart (s : State) (i : SessionId) (b : Bool) :
    ArbiterKept s (s.updSession i fun r => { r with autostart := b }) := by
  refine setSession (.autostart b) ?_ rfl
  simp only [State.wants, State.level, State.session_setSession_same, State.setSession_partTime]
  rfl

theorem runDry (s : State) (i : SessionId) {wasUrgent : Bool}
    (hm : Moves s (((s.updSession i fun r => r.writeLevel s.partTime 0).runDry i).settle i wasUrgent false)) :
    ArbiterKept s (((s.updSession i fun r => r.writeLevel s.partTime 0).runDry i).settle i wasUrgent false) := by
  refine handed hm ?_
  rw [State.rearm_runDry_zero]
  split
  · exact .setSession s i _
  · exact .withControl s i _ _

theorem startPlaying (s : State) (h : (s.session i).state = .primed ∨ (s.session i).state = .paused) :
    ArbiterKept s (s.startPlaying i) := by
  have hm := Moves.startPlaying s h
  revert hm
  unfold State.startPlaying
  split
  · exact runDry s i
  · exact fun hm => handed hm ((Beside.updSession s i _).trans (.updSession _ i _))

theorem stopPlaying (s : State) (h : (s.session i).state = .playing ∨ (s.session i).state = .stalled) :
    ArbiterKept s (s.stopPlaying i) :=
  handed (Moves.stopPlaying s h) ((Beside.updSession s i _).trans (.updSession _ i _))

theorem playOne (h : s.playOne i = some t) : ArbiterKept s t := by
  unfold State.playOne at h
  split at h <;> cases h
  case h_1 => exact autostart s i true
  case h_2 hst => exact startPlaying s (.inl hst)
  case h_4 hst => exact startPlaying s (.inr hst)
  case h_3 | h_5 => exact refl s

theorem pauseOne (h : s.pauseOne i = some t) : ArbiterKept s t := by
  unfold State.pauseOne at h
  split at h <;> cases h
  case h_1 => exact autostart s i false
  case h_3 hst => exact stopPlaying s (.inl hst)
  case h_5 hst => exact stopPlaying s (.inr hst)
  case h_2 | h_4 => exact refl s

theorem answerOne {r : Option State} (h : ∀ t, r = some t → ArbiterKept s t) : ArbiterKept s (answerOne s r).1 := by
  cases r with
  | none => exact refl s
  | some t => exact h t rfl

theorem broadcast (s : State) {one : State → SessionId → Option State}
    (h : ∀ t i u, one t i = some u → ArbiterKept t u) : ArbiterKept s (s.broadcast one).1 := by
  have hturn : ∀ (l : List SessionId) (acc : State × Byte), ArbiterKept acc.1 (l.foldl (broadcastTurn one) acc).1 := by
    intro l
    induction l with
    | nil => exact fun acc => refl acc.1
    | cons i l ih =>
      intro acc
      refine trans ?_ (ih (broadcastTurn one acc i))
      unfold broadcastTurn
      split
      · next t ht => exact h _ _ _ ht
      · exact refl acc.1
  exact hturn Idx4.all (s, 0#8)

theorem servePlayout (s : State) (i : SessionId) (level : Nat) : ArbiterKept s (s.servePlayout i level).1 := by
  cases h : (s.session i).takesControl with
  | false => rw [State.servePlayout_refused h]; exact refl s
  | true =>
    have hm := s.servePlayout_moves i level
    rw [State.servePlayout_taken h, State.playedOut_control] at hm ⊢
    exact handed hm (.withControl s i _ _)

theorem serveEdge (s : State) (i : SessionId) (segment : Nat) : ArbiterKept s (s.serveEdge i segment).1 := by
  have hm := s.serveEdge_moves i segment
  revert hm
  unfold State.serveEdge
  dsimp only
  split
  · split
    · exact fun hm => handed hm (.setSession s i _)
    · exact fun _ => refl s
  · exact fun _ => refl s

theorem serveOpen (s : State) (i : SessionId) {o : OpenRequest} (hlen : o.bitrates.length = o.rungCount) :
    ArbiterKept s (s.serveOpen i o).1 := by
  have hm := s.serveOpen_moves i hlen
  revert hm
  unfold State.serveOpen
  split
  · exact fun _ => refl s
  · split
    · exact fun hm => handed hm (.setSession s i _)
    · exact fun _ => refl s

theorem serveLimits (s : State) (i : SessionId) (cap floor weight : Nat) :
    ArbiterKept s (s.serveLimits i cap floor weight).1 := by
  refine setSession (.limits cap floor weight) ?_ rfl
  simp only [State.wants, State.level, State.session_setSession_same, State.setSession_partTime]
  rfl

theorem serveSeek (hopen : (s.session i).state ≠ .closed) (segment : Nat) : ArbiterKept s (s.serveSeek i segment).1 := by
  have hm := State.serveSeek_moves hopen segment
  revert hm
  unfold State.serveSeek
  split
  · exact fun _ => refl s
  · refine fun hm => handed hm ((((Beside.endRecord s i none ?_).trans (.removeEntry _ i)).trans (.updSession _ i _)).trans
      (.updSession _ i _))
    rw [State.hasFetch]
    cases (s.session i).fetch <;> simp

end ArbiterKept

end Sys2Proof.Machine

/-! O56, the events that are not one session's, and every command (R3 to R9, R19, R25 to R31, R47, R136, R175 to R179). -/

namespace Sys2Proof.Machine

open Sys2Proof

/-! ### Sessions shut and settings replaced (R47, R127, R175 to R179) -/

/-- A session shut neither waits nor wants (R47). -/
theorem QueueIsWanting.shut {s : State} (hs : QueueIsWanting s) (i : SessionId) : QueueIsWanting (s.shut i) := fun j => by
  by_cases hj : j = i
  · subst hj
    have hclosed : ((s.shut j).session j).state = .closed := by
      unfold State.shut
      rw [State.session_updSession_same]
      rfl
    have hwants : (s.shut j).wants j = false := Bool.eq_false_iff.mpr fun h => by
      obtain ⟨_, hrest, _⟩ := State.wants_imp h
      exact hrest (.inl hclosed)
    exact State.placed_of_eq ((s.shut_passedOver j).queued.trans hwants.symm)
  · exact ((Beside.shut (freed := true) s i (.inl rfl)).seen j fun h => hj (Option.some.inj h).symm).placed (hs j)

theorem QueueIsWanting.shutAll {s : State} (hs : QueueIsWanting s) : QueueIsWanting (Idx4.all.foldl State.shutIfOpen s) :=
  List.foldlRecOn Idx4.all State.shutIfOpen hs fun t ht i _ => by
    unfold State.shutIfOpen
    split
    · exact QueueIsWanting.shut ht i
    · exact ht

/-- A number of slots is changed only with every slot free, when nobody waits for one or grants are not allowed (R127, R176). -/
theorem NothingToGrant.configure {s : State} {c : ConfigRequest} (hs : NothingToGrant s) (hslots : SlotsConsistent s)
    (hrange : s.settings.inRange) (hbusy : s.configureBusy c = false) : NothingToGrant (s.setSettings c.settings) := by
  by_cases hcount : c.settings.slotCount = s.settings.slotCount
  · have hbeside : Beside none false s (s.setSettings c.settings) :=
      ⟨hcount, rfl, rfl, fun _ => rfl, fun _ => id, fun _ _ => .ofSame rfl rfl rfl⟩
    exact hs.beside hbeside
  · have hany : s.anyFetch = false := by simpa [State.configureBusy, hcount] using hbusy
    have hnone : ∀ k, s.arbiter.slots.get k = none := fun k => by
      obtain ⟨_, hmatch⟩ := hslots
      by_contra hheld
      obtain ⟨holder, hholder⟩ := Option.ne_none_iff_exists'.mp hheld
      obtain ⟨f, hf, _⟩ := hmatch.ofSlot k holder hholder
      exact List.any_eq_false.mp hany _ holder.session.mem_all (by rw [State.hasFetch, hf]; rfl)
    obtain ⟨hpool, _⟩ := hrange
    have hfree : s.freeSlot = some .i0 := State.freeSlot_eq_some hpool (hnone _) fun j hj => absurd hj (Nat.not_lt_zero _)
    exact .inr (hs.resolve_left (by simp [hfree]))

namespace ArbiterKept

variable {s t : State} {i : SessionId}

theorem serveClose (s : State) (i : SessionId) : ArbiterKept s (s.serveClose i).1 := by
  unfold State.serveClose
  split
  · exact granted (Moves.shut s i).grantAll (State.grantAll_nothingToGrant _) fun hs => (hs.shut i).grantAll
  · next hfetch =>
    have hnone : (s.session i).fetch = none := by simpa [State.hasFetch] using hfetch
    exact ⟨Moves.shut s i, fun _ _ => NothingToGrant.beside (Beside.shut s i (.inr hnone)), fun _ hs => hs.shut i⟩

theorem serveConfigure (s : State) (c : ConfigRequest) : ArbiterKept s (s.serveConfigure c).1 := by
  refine ⟨s.serveConfigure_moves c, ?_, ?_⟩ <;> unfold State.serveConfigure
  · split
    · exact fun _ _ => id
    · next hbusy => exact fun hslots hrange hs => hs.configure hslots hrange (Bool.eq_false_iff.mpr hbusy)
  · split
    · exact fun _ => id
    · exact fun _ hs => hs

theorem serveResetSessions (s : State) : ArbiterKept s s.serveResetSessions.1 :=
  granted (Moves.shutAll s).grantAll (State.grantAll_nothingToGrant _) fun hs => hs.shutAll.grantAll

/-- The release of the hold at the end of a RESET of scope 2 is an occasion of granting (R136, R179). -/
theorem serveResetAll (s : State) (hm : Moves s s.serveResetAll.1) : ArbiterKept s s.serveResetAll.1 := by
  have hclosed := (serveResetSessions s).waiting
  revert hm
  unfold State.serveResetAll
  generalize s.serveResetSessions.1 = u at hclosed
  dsimp only
  generalize hreleased : ((u.setMeter u.meter.clearEstimator).setSettings Settings.default).setArbiter _ = v
  have hlink : ∀ l, Beside none false v.grantAll (v.grantAll.setLink l) := fun l => .aside (.setLink _ l) rfl rfl
  refine fun hm => ⟨hm, fun _ _ _ => (State.grantAll_nothingToGrant v).beside (hlink _), fun hlevel hs => ?_⟩
  have hv : QueueIsWanting v := by
    rw [← hreleased]
    exact hclosed hlevel hs
  exact hv.grantAll.beside (hlink _)

theorem serveReset (s : State) (scope : Nat) : ArbiterKept s (s.serveReset scope).1 := by
  have hm := s.serveReset_moves scope
  revert hm
  unfold State.serveReset
  split
  · exact fun _ => serveResetSessions s
  · split
    · exact serveResetAll s
    · exact fun _ => refl s

theorem serveGrantHold (s : State) (value : Nat) : ArbiterKept s (s.serveGrantHold value).1 := by
  have hm := s.serveGrantHold_moves value
  revert hm
  unfold State.serveGrantHold State.serveHold State.serveRelease
  split
  · exact fun hm => granted hm (.inr (.inr (.inl rfl))) id
  · split
    · split
      · exact fun hm => granted hm (State.grantAll_nothingToGrant _).considerAll fun hs =>
          (QueueIsWanting.grantAll (s := s.setArbiter { s.arbiter with hold := false }) hs).considerAll
      · exact fun _ => refl s
    · exact fun _ => refl s

/-! ### Serving a request (R8, R9, R38) -/

theorem ifOpen {a : State × Answer} (h : (s.session i).state ≠ .closed → ArbiterKept s a.1) :
    ArbiterKept s (s.ifOpen i a).1 := by
  unfold State.ifOpen
  split
  · next hopen => exact h ((Session.isOpen_iff _).mp hopen)
  · exact refl s

theorem serveDevice {k : ReqKind} {p : List Byte} {r : State × Answer} (h : s.serveDevice k p = some r) :
    ArbiterKept s r.1 := by
  cases k <;> cases h
  case configure => exact serveConfigure s _
  case reset => exact serveReset s _
  case grantHold => exact serveGrantHold s _
  case hello | queryLink | history => exact refl s

theorem serveSession {k : ReqKind} {p : List Byte} {r : State × Answer} (h : s.serveSession k i p = some r) :
    ArbiterKept s r.1 := by
  cases k <;> cases h
  case openSession => exact serveOpen s i (OpenRequest.ofPayload_bitrates_length p)
  case querySession => exact refl s
  all_goals refine ifOpen fun hopen => ?_
  case closeSession => exact serveClose s i
  case play => exact answerOne fun _ => playOne
  case pause => exact answerOne fun _ => pauseOne
  case seek => exact serveSeek hopen _
  case limits => exact serveLimits s i _ _ _
  case playout => exact servePlayout s i _
  case edge => exact serveEdge s i _
  case start => exact serveStart s i _ _
  case progress => exact serveProgress s i _ _
  case done => exact serveDone s i _ _
  case fail => exact serveFail s i _ _

theorem serveAll {k : ReqKind} {r : State × Answer} (h : s.serveAll k = some r) : ArbiterKept s r.1 := by
  cases k <;> cases h
  case play => exact broadcast s fun _ _ _ => playOne
  case pause => exact broadcast s fun _ _ _ => pauseOne

theorem serve (s : State) (k : ReqKind) (target : Byte) (p : List Byte) : ArbiterKept s (s.serve k target p).1 := by
  have hget : ∀ o : Option (State × Answer), (∀ r, o = some r → ArbiterKept s r.1) →
      ArbiterKept s (o.getD (s, .refuse .badTarget)).1 := by
    rintro (_ | r) h
    · exact refl s
    · exact h r rfl
  unfold State.serve
  refine hget _ fun r h => ?_
  split at h
  · exact serveDevice h
  · exact serveSession h
  · exact serveAll h
  · cases h

/-! ### The receiver and the transmitter (R3 to R7, R19) -/

theorem checkFrame (s : State) (kind target len : Byte) (p : List Byte) (sum : Byte) :
    ArbiterKept s (s.checkFrame kind target len p sum) := by
  unfold State.checkFrame
  split
  · exact setLink s _
  · split
    · exact setLink s _
    · next k _ =>
      split
      · exact setLink s _
      · exact (serve s k target p).trans (setLink _ _)

theorem transmitReply (s : State) : ArbiterKept s s.transmitReply := by
  unfold State.transmitReply
  split
  · exact setLink s _
  all_goals exact refl s

theorem completeFrame (s : State) (kind target len : Byte) (p : List Byte) (sum : Byte) :
    ArbiterKept s (s.completeFrame kind target len p sum) := by
  have h : ArbiterKept s (if s.clearsNext kind target len p sum then s else s.leaveIdle) := .ite (refl s) (leaveIdle s)
  exact .ite (h.trans (setLink _ _)) (h.trans (checkFrame _ _ _ _ _ _))

theorem takeByte (s : State) (b : Byte) : ArbiterKept s (s.takeByte b) := by
  have hmove : ∀ f, ArbiterKept s (s.moveFramer f) := fun _ => setLink s _
  unfold State.takeByte
  split
  · exact .ite (hmove _) (refl s)
  · exact hmove _
  · exact hmove _
  · exact .ite (hmove _) (hmove _)
  · exact .ite (hmove _) (hmove _)
  · next k t l p _ => exact ((setLink s _).trans (completeFrame s.resetFramer k t l p b)).trans (transmitReply _)

theorem receive (s : State) (b : Byte) : ArbiterKept s (s.receive b) := .ite (takeByte s b) (refl s)

theorem endFrame (s : State) : ArbiterKept s s.endFrame := by
  unfold State.endFrame
  split
  · exact refl s
  · exact setLink s _
  · exact setLink s _

/-! ### The expiries (R27, R66 to R68, R88, R156) -/

theorem fallActivity (s : State) (i : SessionId) : ArbiterKept s (s.fallActivity i) := by
  unfold State.fallActivity
  split
  · exact refl s
  · next f hf => exact .ite ((leaveIdle s).trans (failFetch _ ((s.leaveIdle_only.fetch i).trans hf) _)) (refl s)

theorem fallStall (s : State) (i : SessionId) : ArbiterKept s (s.fallStall i) := by
  unfold State.fallStall
  split
  · next hdue =>
    have harmed : (s.leaveIdle.session i).stallExpiry ≠ none := by
      rw [s.leaveIdle_only.stallExpiry, (isDue_iff _ _).mp hdue]
      nofun
    exact (leaveIdle s).trans (runDry _ i ((Moves.refl _).settle (.runDry _ i (.inr harmed)) _ false))
  · exact refl s

theorem fallLow (s : State) (i : SessionId) : ArbiterKept s (s.fallLow i) := by
  have ho := s.leaveIdle_only
  unfold State.fallLow
  split
  · next hdue =>
    have hdue : (s.leaveIdle.session i).lowExpiry = some s.leaveIdle.partTime := by
      rw [ho.lowExpiry, ho.partTime, (isDue_iff _ _).mp hdue]
    exact (leaveIdle s).trans
      (handed (((Moves.refl _).setSession (.lowFallen hdue)).reexamine i false false) (.setSession _ i _))
  · exact refl s

theorem fallRefill (s : State) (i : SessionId) : ArbiterKept s (s.fallRefill i) := by
  have ho := s.leaveIdle_only
  unfold State.fallRefill
  split
  · next hdue =>
    have hdue : (s.leaveIdle.session i).refillExpiry = some s.leaveIdle.partTime := by
      rw [ho.refillExpiry, ho.partTime, (isDue_iff _ _).mp hdue]
    exact (leaveIdle s).trans
      (handed (((Moves.refl _).setSession (.refillFallen hdue)).reexamine i _ false) (.setSession _ i _))
  · exact refl s

theorem windowNow (s : State) : ArbiterKept s s.windowNow := by
  have hmeter : ArbiterKept s (s.setMeter
      ((s.meter.endWindow s.settings s.contention.accepted s.partTime).armWindow s.settings s.partTime)) :=
    beside ((Moves.refl s).step (.window s)) (.setMeter s _)
  have hexamined : ∀ u : State, ArbiterKept u u.examineAll := fun u =>
    ⟨(Moves.refl u).examineAll, fun _ _ => NothingToGrant.examineAll, fun _ => QueueIsWanting.examineAll⟩
  exact .ite (hmeter.trans (hexamined _)) hmeter

theorem fallWindow (s : State) : ArbiterKept s s.fallWindow := .ite ((leaveIdle s).trans (windowNow _)) (refl s)

theorem fallGap (s : State) : ArbiterKept s s.fallGap := .ite (setLink s _) (refl s)

theorem fallRdy (s : State) : ArbiterKept s s.fallRdy := .ite (setLink s _) (refl s)

/-! ### The contention code and the advance (R25 to R31) -/

/-- The end of code 7 is an occasion of granting; any other code accepted in place of another than 7 leaves as much to grant as
there was (R31, R133, R137). -/
theorem acceptCode (s : State) (code : Code) : ArbiterKept s (s.acceptCode code) := by
  have hcode : Moves s (s.withCode code) :=
    ((Moves.refl s).aside (.setContention s { s.contention with accepted := code })).setLink _
  by_cases hseven : s.contention.accepted = 7#3
  · rw [s.acceptCode_from_seven code hseven]
    exact granted hcode.grantAll.considerAll (State.grantAll_nothingToGrant _).considerAll fun hs =>
      (QueueIsWanting.grantAll (s := s.withCode code) hs).considerAll
  · rw [s.acceptCode_from_other code hseven]
    refine ⟨hcode, fun _ _ hs => ?_, fun _ hs => hs⟩
    obtain hslot | hqueue | hhold | hcode := hs
    · exact .inl hslot
    · exact .inr (.inl hqueue)
    · exact .inr (.inr (.inl hhold))
    · exact absurd hcode hseven

theorem dealWithSample (s : State) (code : Code) : ArbiterKept s (s.dealWithSample code) := by
  have hnoted : ArbiterKept s.leaveIdle (s.leaveIdle.setContention { s.contention with lastSample := some code }) :=
    aside (.setContention _ _) rfl (by rw [s.leaveIdle_only.contention]; rfl)
  have hsampled := (leaveIdle s).trans hnoted
  exact .ite (hsampled.trans (acceptCode _ code)) hsampled

theorem settleSample (s : State) : ArbiterKept s s.settleSample := by
  unfold State.settleSample
  split
  · exact refl s
  · exact (aside (.setContention s { s.contention with held := none }) rfl rfl).trans (dealWithSample _ _)

theorem takeAllDue (s : State) : ArbiterKept s s.takeAllDue := by
  have hbefore : ArbiterKept s s.fallGap.fallRdy.settleSample.fallWindow :=
    (((fallGap s).trans (fallRdy _)).trans (settleSample _)).trans (fallWindow _)
  have hsession : ∀ t i, ArbiterKept t (State.takeSession t i) := fun t i =>
    (((fallActivity t i).trans (fallStall _ i)).trans (fallRefill _ i)).trans (fallLow _ i)
  exact (hbefore.trans (foldl hsession Idx4.all _)).trans (leaveIdle _)

theorem tick (s : State) (hdue : ∀ i, ¬ s.levelDue i) : ArbiterKept s s.tick :=
  ⟨(Moves.refl s).step (.tick s hdue), fun _ _ hs => hs, fun hlevel hs => hs.tick hlevel hdue⟩

theorem advance (s : State) : ArbiterKept s s.advance := (takeAllDue s).trans (tick _ s.takeAllDue_not_levelDue)

theorem advanceAs (s : State) (how : Advance) : ArbiterKept s (s.advanceAs how) := by
  cases how with
  | atOnce cc => exact (advance s).trans (dealWithSample _ _)
  | hold cc => exact (advance s).trans (aside (.setContention _ _) rfl rfl)
  | settle => exact settleSample s

/-! ### Every command -/

theorem execEvent {cmd : Instr} (hreq : requestOf cmd = none) (h : exec cmd s = .next t) :
    ArbiterKept s t ∨ t = s.held ∨ ∃ baudHigh, t = s.release baudHigh := by
  cases cmd <;> cases hreq <;> cases h
  case pinReset => exact .inr (.inl rfl)
  case nrstRelease baudHigh =>
    split
    · exact .inl (refl s)
    · exact .inr (.inr ⟨baudHigh, rfl⟩)
  case rdyFirstRise => exact .inl (.ite (fallRdy s) (refl s))
  case partTimeAdvance how => exact .inl (.ite (advanceAs s how) (refl s))
  case interByteGapExpiry => exact .inl (.ite (fallGap s) (refl s))
  case activityExpiry i => exact .inl (.ite (fallActivity s i) (refl s))
  case stallExpiry i => exact .inl (.ite (fallStall s i) (refl s))
  case lowExpiry i => exact .inl (.ite (fallLow s i) (refl s))
  case refillExpiry i => exact .inl (.ite (fallRefill s i) (refl s))
  case windowExpiry => exact .inl (.ite (fallWindow s) (refl s))
  case frameSent =>
    exact .inl (.ite ((endFrame s).trans (ofChoice s.endFrame.chooseFrame_only (.chooseFrame _))) (refl s))
  case characterReceived stopHigh b => exact .inl (.ite (receive s b) (refl s))

/-- A command is an event of which the arbiter's part is complete, or it drives NRST low or releases it (R180). -/
theorem exec {cmd : Instr} (h : exec cmd s = .next t) :
    ArbiterKept s t ∨ t = s.held ∨ ∃ baudHigh, t = s.release baudHigh := by
  cases hreq : requestOf cmd with
  | none => exact execEvent hreq h
  | some request =>
    rw [exec_request hreq] at h
    cases h
    exact .inl (foldl receive _ s)

end ArbiterKept

/-- What every event keeps, and the pins leave, every step keeps. -/
theorem keptByStep_of_arbiterKept {inv : State → Prop} (hkept : ∀ s t, ArbiterKept s t → inv s → inv t)
    (hheld : ∀ s : State, inv s.held) (hrelease : ∀ (s : State) (baudHigh : Bool), inv (s.release baudHigh)) :
    keptByStep inv := by
  intro s t hs hstep
  unfold step at hstep
  split at hstep
  · cases hstep; exact hs
  · next rest _ =>
    have hrest : ArbiterKept s { s with pending := rest } :=
      .aside ⟨rfl, rfl, rfl, rfl, rfl, fun _ => rfl, fun _ => le_rfl⟩ rfl rfl
    obtain h | rfl | ⟨baudHigh, rfl⟩ := ArbiterKept.exec hstep
    · exact hkept _ _ (hrest.trans h) hs
    · exact hheld _
    · exact hrelease _ baudHigh

/-! ### O56 -/

theorem NothingToGrant.of_queue_nil {s : State} (h : s.arbiter.queue = []) : NothingToGrant s := .inr (.inl h)

/-- With every session as after a pin reset nobody waits and nobody wants (R180). -/
theorem queueIsWanting_of_blank {s : State} (hsessions : s.sessions = Four.const Session.blank)
    (hqueue : s.arbiter.queue = []) : QueueIsWanting s := fun i => by
  have hblank : s.session i = Session.blank := by rw [State.session, hsessions, Four.get_const]
  refine State.placed_of_eq (((s.queue_eq_nil_iff.mp hqueue) i).trans ?_)
  rw [State.wants, hblank]
  rfl

/-- Settles O56: both parts by `ArbiterKept`, the second over the invariant of O58. -/
theorem nothingLeftToGrantKept : Obligations.NothingLeftToGrantKept := by
  refine ⟨keptByStep_of_arbiterKept (fun s t h ⟨hs, hslots, hrange⟩ => ?_)
    (fun s => ⟨.of_queue_nil rfl, s.held_levelInvariant.slotsConsistent, Settings.default_inRange⟩)
    (fun s b => ⟨.of_queue_nil rfl, (s.release_levelInvariant b).slotsConsistent, Settings.default_inRange⟩),
    keptByStep_of_arbiterKept (fun s t h ⟨hs, hlevel⟩ => ?_)
    (fun s => ⟨queueIsWanting_of_blank rfl rfl, (levelInvariant_iff _).mp s.held_levelInvariant⟩)
    (fun s b => ⟨queueIsWanting_of_blank rfl rfl, (levelInvariant_iff _).mp (s.release_levelInvariant b)⟩)⟩
  · exact ⟨h.granting hslots hrange hs, h.moves.keeps (fun _ _ hs h => h.slotsConsistent hs) hslots,
      h.moves.keeps (fun _ _ hs h => h.settingsInRange hs) hrange⟩
  · have hlevel := (levelInvariant_iff s).mpr hlevel
    exact ⟨h.waiting hlevel hs, (levelInvariant_iff t).mp (h.moves.keeps (fun _ _ hs h => h.levelInvariant hs) hlevel)⟩

end Sys2Proof.Machine

/-! O19 and SUPPORT. What the arbiter decides: urgency, the selection of an entry, the grant, and the hold (R129, R130, R132 to
R136). -/

namespace Sys2Proof.Machine

open Sys2Proof

/-! ### Urgency (R132, R142) -/

theorem State.urgent_iff (s : State) (i : SessionId) : s.urgent i = true ↔
    (s.session i).state = .priming ∨ (s.session i).state = .stalled ∨
      ((s.session i).state = .playing ∧ s.level i < (s.session i).markL) := by
  simp only [State.urgent]
  cases (s.session i).state <;> simp

theorem State.toldUrgent_iff (s : State) (i : SessionId) : s.toldUrgent i = true ↔
    s.urgent i = true ∧ ¬ ((s.session i).state = .playing ∧ (s.session i).lowExpiry = some s.partTime) := by
  simp [State.toldUrgent, isDue, imp_iff_not_or]

/-! ### A re-examination (R130, R135, R138) -/

/-- A session that wants a fetch and has no entry joins, and preemption is considered for an urgent one. -/
theorem State.reexamine_joining {s : State} {i : SessionId} (hwants : s.wants i = true) (hqueued : s.isQueued i = false)
    (wasUrgent freed : Bool) : s.reexamine i wasUrgent freed =
      if (s.appendEntry i).grantAll.urgent i then (s.appendEntry i).grantAll.considerPreemption i
      else (s.appendEntry i).grantAll := if_pos (by simp [State.joins, hwants, hqueued])

/-- Without an entry of the session there is none to remove (R131). -/
theorem State.removeEntry_of_not_queued {s : State} {i : SessionId} (h : s.isQueued i = false) : s.removeEntry i = s := by
  have hfilter : s.arbiter.queue.filter (fun e => e.session != i) = s.arbiter.queue :=
    List.filter_eq_self.mpr fun e he => bne_iff_ne.mpr fun hi =>
      Bool.eq_false_iff.mp h ((s.isQueued_iff i).mpr ⟨e, he, hi⟩)
  rw [State.removeEntry, hfilter]
  rfl

/-- A session that does not join keeps its entry while it wants a fetch and leaves the queue otherwise. -/
theorem State.reexamine_staying {s : State} {i : SessionId} (h : ¬ (s.wants i = true ∧ s.isQueued i = false))
    (wasUrgent freed : Bool) :
    let left := if s.wants i = true then s else s.removeEntry i
    let stayed := if freed then left.grantAll else left
    s.reexamine i wasUrgent freed =
      if stayed.toldUrgent i && !wasUrgent then stayed.considerPreemption i else stayed := by
  have hjoins : ¬ s.joins i = true := by simpa [State.joins] using h
  have hleft : (if s.isQueued i && !s.wants i then s.removeEntry i else s) =
      if s.wants i = true then s else s.removeEntry i := by
    cases hwants : s.wants i with
    | true => simp
    | false =>
      cases hqueued : s.isQueued i with
      | true => simp
      | false => simp [State.removeEntry_of_not_queued hqueued]
  rw [State.reexamine, if_neg hjoins, hleft]

/-! ### Which entry is selected (R134) -/

theorem State.lowerLevel_none (s : State) (e : QueueEntry) : s.lowerLevel none e = some e.session := rfl

theorem State.lowerLevel_some (s : State) (b : SessionId) (e : QueueEntry) :
    s.lowerLevel (some b) e = if s.level e.session < s.level b then some e.session else some b := rfl

/-- The best so far stays when none that follows has a strictly smaller level. -/
theorem State.foldl_lowerLevel_stays (s : State) {b : SessionId} {l : List QueueEntry}
    (h : ∀ d ∈ l, s.level b ≤ s.level d.session) : l.foldl s.lowerLevel (some b) = some b := by
  induction l with
  | nil => rfl
  | cons d l ih =>
    obtain ⟨hd, hl⟩ := List.forall_mem_cons.mp h
    rw [List.foldl_cons, State.lowerLevel_some, if_neg hd.not_gt, ih hl]

/-- Of a list of entries the one of smallest level is selected, the first among equals. -/
theorem State.foldl_lowerLevel_least (s : State) {before after : List QueueEntry} {e : QueueEntry}
    (hbefore : ∀ d ∈ before, s.level e.session < s.level d.session)
    (hafter : ∀ d ∈ after, s.level e.session ≤ s.level d.session) :
    (before ++ e :: after).foldl s.lowerLevel none = some e.session := by
  have hbest : s.lowerLevel (before.foldl s.lowerLevel none) e = some e.session := by
    cases hb : before.foldl s.lowerLevel none with
    | none => rfl
    | some b =>
      obtain hnone | ⟨d, hd, rfl⟩ := s.foldl_lowerLevel_mem _ hb
      · cases hnone
      · rw [State.lowerLevel_some, if_pos (hbefore d hd)]
  rw [List.foldl_append, List.foldl_cons, hbest, s.foldl_lowerLevel_stays hafter]

theorem State.selectEntry_of_queue_nil {s : State} (h : s.arbiter.queue = []) : s.selectEntry = none := by
  simp [State.selectEntry, h]

/-- With no urgent entry the head is selected. -/
theorem State.selectEntry_head {s : State} {e : QueueEntry} {rest : List QueueEntry} (hqueue : s.arbiter.queue = e :: rest)
    (h : ∀ d ∈ s.arbiter.queue, s.toldUrgent d.session = false) : s.selectEntry = some e.session := by
  have hnone : s.arbiter.queue.filter (fun d => s.toldUrgent d.session) = [] :=
    List.filter_eq_nil_iff.mpr fun d hd => by simp [h d hd]
  rw [State.selectEntry, hnone, hqueue]
  rfl

/-- Of the urgent entries the one of smallest level is selected, the nearest the head among equals. -/
theorem State.selectEntry_least {s : State} {before after : List QueueEntry} {e : QueueEntry}
    (hqueue : s.arbiter.queue = before ++ e :: after) (hurgent : s.toldUrgent e.session = true)
    (hbefore : ∀ d ∈ before, s.toldUrgent d.session = true → s.level e.session < s.level d.session)
    (hafter : ∀ d ∈ after, s.toldUrgent d.session = true → s.level e.session ≤ s.level d.session) :
    s.selectEntry = some e.session := by
  have hleast := s.foldl_lowerLevel_least (e := e) (before := before.filter fun d => s.toldUrgent d.session)
    (after := after.filter fun d => s.toldUrgent d.session)
    (fun d hd => hbefore d (List.mem_of_mem_filter hd) (List.mem_filter.mp hd).2)
    fun d hd => hafter d (List.mem_of_mem_filter hd) (List.mem_filter.mp hd).2
  rw [State.selectEntry, hqueue, List.filter_append, List.filter_cons_of_pos (p := fun d : QueueEntry => s.toldUrgent d.session) hurgent,
    hleast]

/-! ### Granting (R128, R133, R135) -/

theorem State.grantsAllowed_iff (s : State) :
    s.grantsAllowed = true ↔ s.arbiter.hold = false ∧ s.contention.accepted ≠ 7#3 := by
  simp [State.grantsAllowed]

theorem State.freeSlot_eq_none_iff (s : State) :
    s.freeSlot = none ↔ ∀ k : SlotId, k.toNat < s.settings.slotCount → s.arbiter.slots.get k ≠ none := by
  simp [State.freeSlot, State.pool, List.find?_eq_none, Idx4.mem_all]

/-- A grant is made where R133 allows one. -/
theorem State.grantOnce_of_selectEntry {s : State} {k : SlotId} {i : SessionId} (hallowed : s.grantsAllowed = true)
    (hslot : s.freeSlot = some k) (hentry : s.selectEntry = some i) :
    s.grantOnce = some ((s.removeEntry i).createRecord i k) := by
  rw [State.grantOnce, if_pos hallowed, hslot, hentry]

theorem NothingToGrant.grantOnce {s : State} (h : NothingToGrant s) : s.grantOnce = none := by
  refine Option.eq_none_iff_forall_ne_some.mpr fun t ht => ?_
  obtain ⟨hallowed, k, i, hslot, hentry, _⟩ := State.grantOnce_eq_some ht
  obtain ⟨hhold, hcode⟩ := s.grantsAllowed_iff.mp hallowed
  obtain hnone | hnil | hheld | hseven := h
  · exact absurd (hslot.symm.trans hnone) nofun
  · exact absurd (hentry.symm.trans (State.selectEntry_of_queue_nil hnil)) nofun
  · exact absurd (hheld.symm.trans hhold) nofun
  · exact hcode hseven

theorem NothingToGrant.grantAll {s : State} (h : NothingToGrant s) : s.grantAll = s := by
  show s.grantUpTo (3 + 1) = s
  rw [State.grantUpTo, h.grantOnce]

/-! ### The hold (R136) -/

theorem State.serveRelease_released {s : State} (h : s.arbiter.hold = false) : s.serveRelease = (s, .plain) :=
  if_neg (by simp [h])

/-- A release of a hold in force is an occasion of granting and then of considering preemption. -/
theorem State.serveRelease_held {s : State} (h : s.arbiter.hold = true) : s.serveRelease =
    ((State.grantAll { s with arbiter := { s.arbiter with hold := false } }).considerAll, .plain) := if_pos h

/-- Settles O19, by the two cases of a release. -/
theorem grantHoldAndRelease : Obligations.GrantHoldAndRelease := by
  intro s hs reply
  have hrelease : ∀ {core : State}, s.serveRelease = (core, .plain) →
      exec (.grantHoldRelease (clean 0x0E#8)) s = .next (afterReply core reply) := fun hserve =>
    exec_deviceRequest (k := .grantHold) (p := [0#8]) hs rfl rfl (congrArg some hserve)
  refine ⟨exec_deviceRequest (k := .grantHold) (p := [1#8]) (a := .plain) hs rfl rfl rfl,
    fun hreleased => hrelease (State.serveRelease_released hreleased), fun hheld => ⟨_, ?_, rfl, ?_, ?_⟩⟩
  · exact (State.grantAll_only _).trans (State.considerAll_only _)
  · exact (State.grantAll_nothingToGrant _).considerAll
  · exact hrelease (State.serveRelease_held hheld)

end Sys2Proof.Machine

/-! O52 and SUPPORT. Whom a preemption takes (R138 to R142): the qualifying slot granted last, a DONE that forestalls it, and the
order of the considerations. -/

namespace Sys2Proof.Machine

open Sys2Proof

/-! ### The slot of least age (R140) -/

/-- Of the slots `ks` none has a smaller age than `k`, and none of the same age a higher number. -/
def IsLatest (age : SlotId → Nat) (ks : List SlotId) (k : SlotId) : Prop :=
  k ∈ ks ∧ ∀ j ∈ ks, j ≠ k → age k < age j ∨ (age k = age j ∧ j.toNat < k.toNat)

theorem IsLatest.unique {age : SlotId → Nat} {ks : List SlotId} {j k : SlotId} (hj : IsLatest age ks j)
    (hk : IsLatest age ks k) : j = k := by
  obtain ⟨hjmem, hjleast⟩ := hj
  obtain ⟨hkmem, hkleast⟩ := hk
  by_contra hne
  have h := hjleast k hkmem (Ne.symm hne)
  have h' := hkleast j hjmem hne
  omega

theorem latestSlot_append_singleton (age : SlotId → Nat) (ks : List SlotId) (x : SlotId) :
    latestSlot age (ks ++ [x]) = some (match latestSlot age ks with
      | none => x
      | some b => if age x ≤ age b then x else b) := by
  rw [latestSlot, List.foldl_append, List.foldl_cons, List.foldl_nil]
  show (match latestSlot age ks with
    | none => some x
    | some b => if age x ≤ age b then some x else some b) = _
  cases latestSlot age ks with
  | none => rfl
  | some b => exact (apply_ite some _ _ _).symm

/-- In ascending order of number, the slot chosen is the latest; only of no slots none is chosen. -/
theorem latestSlot_cases (age : SlotId → Nat) {ks : List SlotId} (h : ks.Pairwise (·.toNat < ·.toNat)) :
    (ks = [] ∧ latestSlot age ks = none) ∨ ∃ k, latestSlot age ks = some k ∧ IsLatest age ks k := by
  induction ks using List.reverseRecOn with
  | nil => exact .inl ⟨rfl, rfl⟩
  | append_singleton ks x ih =>
    obtain ⟨hks, _, hlast⟩ := List.pairwise_append.mp h
    have hx : ∀ j ∈ ks, j.toNat < x.toNat := fun j hj => hlast j hj x (List.mem_singleton_self x)
    refine .inr ⟨_, latestSlot_append_singleton age ks x, ?_⟩
    obtain ⟨rfl, hnone⟩ | ⟨b, hb, hbmem, hbleast⟩ := ih hks
    · rw [hnone]
      exact ⟨List.mem_singleton_self x, fun j hj hne => absurd (List.mem_singleton.mp hj) hne⟩
    · rw [hb]
      dsimp only
      split
      · next hle =>
        refine ⟨List.mem_append_right _ (List.mem_singleton_self x), fun j hj hne => ?_⟩
        have hj := (List.mem_append.mp hj).resolve_right fun h => hne (List.mem_singleton.mp h)
        have hlt := hx j hj
        by_cases hjb : j = b
        · subst hjb; omega
        · have := hbleast j hj hjb
          omega
      · next hgt =>
        refine ⟨List.mem_append_left _ hbmem, fun j hj hne => ?_⟩
        obtain hj | hj := List.mem_append.mp hj
        · exact hbleast j hj hne
        · rw [List.mem_singleton.mp hj]
          omega

theorem State.pool_filter_ascending (s : State) (p : SlotId → Bool) : (s.pool.filter p).Pairwise (·.toNat < ·.toNat) := by
  have hall : Idx4.all.Pairwise (·.toNat < ·.toNat) := by decide
  exact (hall.filter _).filter p

theorem State.mem_pool (s : State) (k : SlotId) : k ∈ s.pool ↔ k.toNat < s.settings.slotCount := by
  simp [State.pool, Idx4.mem_all]

/-- Of the slots of the pool that satisfy a condition the latest is chosen. -/
theorem State.latestSlot_pool_iff (s : State) (age : SlotId → Nat) (p : SlotId → Bool) (k : SlotId) :
    latestSlot age (s.pool.filter p) = some k ↔ IsLatest age (s.pool.filter p) k := by
  obtain ⟨hnil, hnone⟩ | ⟨j, hj, hlatest⟩ := latestSlot_cases age (s.pool_filter_ascending p)
  · rw [hnone, hnil]
    exact ⟨nofun, fun ⟨hmem, _⟩ => absurd hmem List.not_mem_nil⟩
  · rw [hj, Option.some.injEq]
    exact ⟨fun h => h ▸ hlatest, hlatest.unique⟩

/-! ### The victim (R139, R140) -/

/-- A slot of the pool that qualifies: its holder is not urgent, and its record has received less than a quarter of X. -/
theorem State.mem_qualifying_iff (s : State) (k : SlotId) : k ∈ s.pool.filter s.slotQualifies ↔
    k.toNat < s.settings.slotCount ∧ ∃ (h : SlotHolder) (f : FetchRecord), s.arbiter.slots.get k = some h ∧
      s.urgent h.session = false ∧ (s.session h.session).fetch = some f ∧ f.received * 4 < f.expected := by
  rw [List.mem_filter, State.mem_pool, State.slotQualifies]
  refine and_congr_right fun _ => ?_
  cases s.arbiter.slots.get k with
  | none => simp
  | some h => cases hf : (s.session h.session).fetch <;> simp [hf]

theorem State.slotAge_held {s : State} {k : SlotId} {h : SlotHolder} (hk : s.arbiter.slots.get k = some h) :
    s.slotAge k = interval h.grantTime s.partTime := by rw [State.slotAge, hk]; rfl

theorem State.victimSlot_eq_none {s : State} (h : ∀ k, k ∉ s.pool.filter s.slotQualifies) : s.victimSlot = none := by
  rw [State.victimSlot, List.eq_nil_iff_forall_not_mem.mpr h]
  rfl

/-- The victim's slot is, of the qualifying ones, the one granted last, with the higher number among equals. -/
theorem State.victimSlot_eq_some {s : State} {k : SlotId} {h : SlotHolder} (hk : k ∈ s.pool.filter s.slotQualifies)
    (hheld : s.arbiter.slots.get k = some h)
    (hleast : ∀ (j : SlotId) (g : SlotHolder), j ∈ s.pool.filter s.slotQualifies → s.arbiter.slots.get j = some g → j ≠ k →
      interval h.grantTime s.partTime < interval g.grantTime s.partTime ∨
        (interval h.grantTime s.partTime = interval g.grantTime s.partTime ∧ j.toNat < k.toNat)) :
    s.victimSlot = some k := by
  refine (s.latestSlot_pool_iff _ _ k).mpr ⟨hk, fun j hj hne => ?_⟩
  obtain ⟨_, g, _, hg, _⟩ := (s.mem_qualifying_iff j).mp hj
  rw [State.slotAge_held hheld, State.slotAge_held hg]
  exact hleast j g hj hg hne

/-! ### A DONE of the same part time (R142, log 24) -/

theorem State.mem_qualifiedBeforeDone_iff (s : State) (k : SlotId) :
    k ∈ s.pool.filter s.qualifiedBeforeDone ↔ ∃ g, s.preemptible k g := by
  have hqualifies := s.mem_qualifying_iff k
  rw [List.mem_filter, State.mem_pool] at hqualifies ⊢
  unfold State.qualifiedBeforeDone State.preemptible
  cases hdone : s.arbiter.doneGrants.get k with
  | some g => simp
  | none =>
    rw [Option.isSome_none, Bool.false_or, hqualifies]
    constructor
    · rintro ⟨hpool, h, f, hheld, hurgent, hf, hlt⟩
      exact ⟨h.grantTime, hpool, .inr ⟨rfl, h, f, hheld, rfl, hurgent, hf, hlt⟩⟩
    · rintro ⟨_, hpool, hnot | ⟨_, h, f, hheld, _, hurgent, hf, hlt⟩⟩
      · cases hnot
      · exact ⟨hpool, h, f, hheld, hurgent, hf, hlt⟩

theorem State.ageBeforeDone_preemptible {s : State} {k : SlotId} {g : PartTime} (h : s.preemptible k g) :
    s.ageBeforeDone k = interval g s.partTime := by
  unfold State.ageBeforeDone
  obtain ⟨_, hdone | ⟨hdone, holder, _, hheld, rfl, _⟩⟩ := h
  · rw [hdone]; rfl
  · rw [hdone, Option.elim_none, State.slotAge_held hheld]

/-- The consideration that a DONE forestalls is the one that would have chosen the DONE's holder. -/
theorem State.doneForestalls_iff (s : State) : s.doneForestalls ↔ s.doneWasChoice = true := by
  have hchoice : s.doneWasChoice = true ↔ ∃ k, IsLatest s.ageBeforeDone (s.pool.filter s.qualifiedBeforeDone) k ∧
      ∃ g, s.arbiter.doneGrants.get k = some g := by
    simp only [← State.latestSlot_pool_iff, State.doneWasChoice]
    cases latestSlot s.ageBeforeDone (s.pool.filter s.qualifiedBeforeDone) with
    | none => simp
    | some k => simp [Option.isSome_iff_exists]
  rw [hchoice]
  constructor
  · rintro ⟨k, g, hdone, hk, hleast⟩
    refine ⟨k, ⟨(s.mem_qualifiedBeforeDone_iff k).mpr ⟨g, hk⟩, fun j hj hne => ?_⟩, g, hdone⟩
    obtain ⟨g', hj⟩ := (s.mem_qualifiedBeforeDone_iff j).mp hj
    rw [State.ageBeforeDone_preemptible hk, State.ageBeforeDone_preemptible hj]
    exact hleast j g' hj hne
  · rintro ⟨k, ⟨hmem, hleast⟩, g, hdone⟩
    have hk : s.preemptible k g := ⟨(s.mem_pool k).mp (List.mem_of_mem_filter hmem), .inl hdone⟩
    refine ⟨k, g, hdone, hk, fun j g' hj hne => ?_⟩
    rw [← State.ageBeforeDone_preemptible hk, ← State.ageBeforeDone_preemptible hj]
    exact hleast j ((s.mem_qualifiedBeforeDone_iff j).mpr ⟨g', hj⟩) hne

/-! ### A consideration (R138 to R142) -/

/-- When a consideration for session `i` may preempt (R139, R142). -/
def State.mayPreempt (s : State) (i : SessionId) : Prop :=
  s.isQueued i = true ∧ s.urgent i = true ∧ s.settings.preemption = true ∧ s.arbiter.hold = false ∧
    s.contention.accepted ≠ 7#3 ∧ (∀ k : SlotId, k.toNat < s.settings.slotCount → s.arbiter.slots.get k ≠ none) ∧
    (∀ e ∈ s.arbiter.queue, e.session = i → e.preemptionUsed = false) ∧ ¬ s.doneForestalls

theorem State.preemptionUsed_eq_false_iff (s : State) (i : SessionId) :
    ¬ s.preemptionUsed i = true ↔ ∀ e ∈ s.arbiter.queue, e.session = i → e.preemptionUsed = false := by
  simp [State.preemptionUsed]

theorem State.mayPreempt_iff (s : State) (i : SessionId) : s.mayPreempt i ↔
    s.isQueued i ∧ s.urgent i ∧ s.settings.preemption ∧ s.grantsAllowed ∧ s.freeSlot = none ∧ ¬ s.preemptionUsed i ∧
      ¬ s.doneWasChoice := by
  rw [State.grantsAllowed_iff, State.freeSlot_eq_none_iff, State.preemptionUsed_eq_false_iff, ← State.doneForestalls_iff,
    and_assoc]
  exact Iff.rfl

/-- A consideration that may not preempt, or finds no victim, changes nothing. -/
theorem State.considerPreemption_idle {s : State} {i : SessionId} (h : ¬ s.mayPreempt i ∨ s.victimSlot = none) :
    s.considerPreemption i = s := by
  have hnone : s.preemptionVictim i = none := by
    unfold State.preemptionVictim
    split
    · next hmay =>
      rw [h.resolve_left (not_not_intro ((s.mayPreempt_iff i).mpr hmay))]
      rfl
    · rfl
  rw [State.considerPreemption, hnone]

theorem State.considerPreemption_taken {s : State} {i : SessionId} {k : SlotId} {h : SlotHolder} (hmay : s.mayPreempt i)
    (hvictim : s.victimSlot = some k) (hheld : s.arbiter.slots.get k = some h) :
    s.considerPreemption i = s.preempt i h.session := by
  have hsome : s.preemptionVictim i = some h.session := by
    rw [State.preemptionVictim, if_pos ((s.mayPreempt_iff i).mp hmay), hvictim, Option.bind_some, hheld]
    rfl
  rw [State.considerPreemption, hsome]

/-! ### The order of the considerations (R134, R138) -/

/-- Of two sessions the one of smaller level comes first, and of equal levels the one nearer the head. -/
def State.takenBefore (s : State) (place : SessionId → Nat) (i j : SessionId) : Prop :=
  s.level i < s.level j ∨ (s.level i = s.level j ∧ place i < place j)

theorem State.insertByLevel_perm (s : State) (i : SessionId) (l : List SessionId) : (s.insertByLevel i l).Perm (i :: l) := by
  induction l with
  | nil => exact .refl _
  | cons j rest ih =>
    unfold State.insertByLevel
    split
    · exact .refl _
    · exact (ih.cons j).trans (.swap i j rest)

/-- A session put in behind those nearer the head keeps the order. -/
theorem State.insertByLevel_pairwise {s : State} {place : SessionId → Nat} {i : SessionId} {l : List SessionId}
    (hl : l.Pairwise (s.takenBefore place)) (hi : ∀ j ∈ l, place j < place i) :
    (s.insertByLevel i l).Pairwise (s.takenBefore place) := by
  induction l with
  | nil => exact List.pairwise_singleton _ _
  | cons j rest ih =>
    obtain ⟨hj, hrest⟩ := List.pairwise_cons.mp hl
    obtain ⟨hplace, hplaces⟩ := List.forall_mem_cons.mp hi
    unfold State.insertByLevel
    split
    · next hlt =>
      refine List.pairwise_cons.mpr ⟨fun x hx => .inl ?_, hl⟩
      obtain rfl | hx := List.mem_cons.mp hx
      · exact hlt
      · have hjx : s.level j < s.level x ∨ (s.level j = s.level x ∧ place j < place x) := hj x hx
        omega
    · next hge =>
      refine List.pairwise_cons.mpr ⟨fun x hx => ?_, ih hrest hplaces⟩
      obtain rfl | hx := List.mem_cons.mp ((s.insertByLevel_perm i rest).mem_iff.mp hx)
      · exact (Nat.lt_or_eq_of_le (Nat.le_of_not_lt hge)).imp_right fun h => ⟨h, hplace⟩
      · exact hj x hx

theorem State.foldl_insertByLevel_perm (s : State) (l acc : List SessionId) :
    (l.foldl (fun acc i => s.insertByLevel i acc) acc).Perm (acc ++ l) := by
  induction l generalizing acc with
  | nil => rw [List.append_nil]; exact .refl _
  | cons i l ih => exact (ih _).trans (((s.insertByLevel_perm i acc).append_right l).trans List.perm_middle.symm)

theorem State.foldl_insertByLevel_pairwise {s : State} {place : SessionId → Nat} {l acc : List SessionId}
    (hl : l.Pairwise (place · < place ·)) (hacc : acc.Pairwise (s.takenBefore place))
    (hplace : ∀ j ∈ acc, ∀ i ∈ l, place j < place i) :
    (l.foldl (fun acc i => s.insertByLevel i acc) acc).Pairwise (s.takenBefore place) := by
  induction l generalizing acc with
  | nil => exact hacc
  | cons i l ih =>
    obtain ⟨hi, hl⟩ := List.pairwise_cons.mp hl
    refine ih hl (State.insertByLevel_pairwise hacc fun j hj => hplace j hj i List.mem_cons_self) fun j hj k hk => ?_
    obtain rfl | hj := List.mem_cons.mp ((s.insertByLevel_perm i acc).mem_iff.mp hj)
    · exact hi k hk
    · exact hplace j hj k (List.mem_cons_of_mem i hk)

theorem State.urgentOrder_eq_foldl (s : State) : s.urgentOrder =
    ((s.arbiter.queue.map (·.session)).filter s.urgent).foldl (fun acc i => s.insertByLevel i acc) [] := by
  rw [List.filter_map, List.foldl_map]
  rfl

theorem State.urgentOrder_perm (s : State) :
    s.urgentOrder.Perm ((s.arbiter.queue.map (·.session)).filter s.urgent) :=
  s.urgentOrder_eq_foldl ▸ s.foldl_insertByLevel_perm _ []

/-- In a list without repetition each member stands before those that follow it. -/
theorem pairwise_idxOf_lt {l : List SessionId} (h : l.Nodup) : l.Pairwise (l.idxOf · < l.idxOf ·) :=
  List.pairwise_iff_getElem.mpr fun i j hi hj hlt => by rwa [h.idxOf_getElem i hi, h.idxOf_getElem j hj]

/-- The considerations go by level, and among equals by place in the queue. -/
theorem State.urgentOrder_pairwise {s : State} (h : (s.arbiter.queue.map (·.session)).Nodup) :
    s.urgentOrder.Pairwise (s.takenBefore (s.arbiter.queue.map (·.session)).idxOf) :=
  s.urgentOrder_eq_foldl ▸ State.foldl_insertByLevel_pairwise ((pairwise_idxOf_lt h).filter s.urgent) .nil
    fun _ hj => absurd hj List.not_mem_nil

/-! ### The clauses together (R129 to R142) -/

/-- With a slot free and grants allowed, the entry selected takes the free slot of lowest number. -/
theorem State.grantAll_of_selectEntry {s : State} {k : SlotId} {i : SessionId} (hhold : s.arbiter.hold = false)
    (hcode : s.contention.accepted ≠ 7#3) (hpool : k.toNat < s.settings.slotCount) (hfree : s.arbiter.slots.get k = none)
    (hlower : ∀ j : SlotId, j.toNat < k.toNat → s.arbiter.slots.get j ≠ none) (hentry : s.selectEntry = some i) :
    s.grantAll = ((s.removeEntry i).createRecord i k).grantAll :=
  State.grantAll_of_grantOnce (State.grantOnce_of_selectEntry (s.grantsAllowed_iff.mpr ⟨hhold, hcode⟩)
    (State.freeSlot_eq_some hpool hfree hlower) hentry)

/-- Settles O52, a clause from each of the parts above. -/
theorem selectionAndVictim : Obligations.SelectionAndVictim := by
  intro s
  refine ⟨fun i => ⟨?_, s.urgent_iff i, s.toldUrgent_iff i, s.isQueued_iff i⟩,
    fun i wasUrgent freed => ⟨fun hwants hqueued => State.reexamine_joining hwants hqueued wasUrgent freed,
      fun h => State.reexamine_staying h wasUrgent freed⟩,
    State.selectEntry_of_queue_nil, fun _ _ => State.selectEntry_head, fun _ _ _ => State.selectEntry_least,
    fun _ _ => State.grantAll_of_selectEntry, NothingToGrant.grantAll, fun qualifies hqualifies => ?_,
    fun _ => ⟨State.considerPreemption_idle, fun _ _ => State.considerPreemption_taken⟩,
    fun hnodup => ⟨s.urgentOrder, s.urgentOrder_perm, State.urgentOrder_pairwise hnodup, rfl⟩⟩
  case refine_1 => rw [State.wants_iff, Session.segmentAvailable_iff]
  case refine_2 =>
    have hmem : ∀ k, k ∈ s.pool.filter s.slotQualifies ↔ qualifies k := fun k =>
      (s.mem_qualifying_iff k).trans (hqualifies k).symm
    exact ⟨fun hnone => State.victimSlot_eq_none fun k hk => hnone k ((hmem k).mp hk),
      fun k _ hk hheld hleast => State.victimSlot_eq_some ((hmem k).mpr hk) hheld fun j g hj =>
        hleast j g ((hmem j).mp hj)⟩

end Sys2Proof.Machine

/-! O35, O36, O37, O40, O41, O42. The fetch lifecycle but for its completion: the ending path, failure handling and the reports
START, PROGRESS and FAIL (R87, R148 to R150, R154 to R163, R167). -/

namespace Sys2Proof.Machine

open Sys2Proof

/-! ### The busy reckoning (R87) -/

theorem LinkMeter.activeUp_eq (m : LinkMeter) (now : PartTime) : m.activeUp now = m.oneMoreActive now := by
  unfold LinkMeter.activeUp LinkMeter.oneMoreActive
  split
  · next hzero => rw [hzero]
  · rfl

theorem LinkMeter.activeDown_eq (m : LinkMeter) (now : PartTime) : m.activeDown now = { m with
    activeCount := m.activeCount - 1
    busyStored := if m.activeCount = 1 then m.busyStored + (now - m.busyRef).toNat else m.busyStored } := by
  unfold LinkMeter.activeDown
  split
  · next hone => rw [LinkMeter.busyAt, if_pos (by omega), hone]; rfl
  · rfl

/-! ### The ending path (R157) -/

/-- Settles O41: the ending path is `State.endRecord_eq`, with the busy reckoning of the record that leaves ACTIVE. -/
theorem endingPathSteps : Obligations.EndingPathSteps := by
  intro i why s
  refine ⟨s.endRecord_none i why, fun f hf => ?_⟩
  rw [s.endRecord_eq i why f hf]
  cases f.state with
  | ordered => simp
  | active => simp [LinkMeter.activeDown_eq]

/-! ### Failure handling (R159 to R163) -/

theorem Session.skip_eq (r : Session) (segment : Nat) : r.skip segment = { r with
    nextSegment := segment + 1, attempts := 0
    skipFirst := if r.skipCount = 0 then segment else r.skipFirst
    skipCount := min (r.skipCount + 1) 255 } := by
  unfold Session.skip Session.recordSkip
  dsimp only
  split
  · next hzero => rw [hzero]; rfl
  · rfl

/-- In FAULT the level in force is kept and no level expiry stands (R61, R65, R163). -/
theorem Session.rearm_enter_fault (r : Session) (now : PartTime) : (r.enter now .fault).rearm = { r with
    state := .fault, storedLevel := r.level now, refTime := if r.state = .playing then now else r.refTime
    stallExpiry := none, lowExpiry := none, refillExpiry := none } := by
  have hstate : (r.enter now .fault).state ≠ .playing := by unfold Session.enter; split <;> nofun
  rw [Session.rearm_of_not_playing hstate]
  unfold Session.enter
  by_cases hplaying : r.state = .playing
  · simp [hplaying, Session.writeLevel]
  · simp [hplaying, r.level_of_not_playing now hplaying]

/-- Failure handling of a record that has ended is `State.afterFailure` (R159). -/
theorem State.handleFailure_eq {s : State} {i : SessionId} (hnone : (s.session i).fetch = none) (f : FetchRecord) :
    s.handleFailure i f = s.afterFailure i f := by
  unfold State.handleFailure State.afterFailure
  dsimp only
  rw [← hnone]
  split
  · rfl
  · split
    · rw [Session.skip_eq]; rfl
    · rw [State.enterFault, State.updSession, Session.rearm_enter_fault]; rfl

/-- A fetch that fails: its record ends, failure handling follows, and the arbiter is handed the session and the slot (R154,
R156). -/
theorem State.failFetch_eq (s : State) (i : SessionId) (f : FetchRecord) (why : Option CancelReason) :
    s.failFetch i f why = ((s.endRecord i why).afterFailure i f).reexamine i (s.toldUrgent i) true := by
  rw [State.failFetch, State.handleFailure_eq (by rw [s.session_endRecord_same])]

/-- Settles O42: an activity expiry that is due is `State.failFetch` with reason TIMEOUT. -/
theorem activityExpiryFails : Obligations.ActivityExpiryFails := by
  intro i f s hn hs hf hdue
  refine ⟨_, State.handedOver_reexamine _ i _ true, ?_⟩
  have hfall : s.fallActivity i = s.failFetch i f (some .timeout) := by
    rw [State.fallActivity_due hf hdue, s.leaveIdle_served hs]
  rw [← State.failFetch_eq, ← hfall]
  exact congrArg Host.Outcome.next (if_pos hn)

/-! ### Which record a report is of (R148) -/

theorem State.matchReport_tag {s : State} {i : SessionId} {f : FetchRecord} (hf : (s.session i).fetch = some f) :
    s.matchReport i f.tag = some f := by
  simp [State.matchReport, hf]

theorem State.matchReport_stale {s : State} {i : SessionId} {tag : Byte}
    (h : ∀ f, (s.session i).fetch = some f → f.tag ≠ tag) : s.matchReport i tag = none := by
  unfold State.matchReport
  split
  · next f hf => exact if_neg (h f hf)
  · rfl

/-- A session request at a part that is ready for it, of an open session (R9, R19, R38). -/
theorem exec_openRequest {s core : State} {cmd : Instr} {k : ReqKind} {i : SessionId} {p : List Byte} {served : State × Answer}
    {a : Answer} (hs : s.linkReady) (hopen : (s.session i).state ≠ .closed)
    (hreq : requestOf cmd = some (k, clean (sessionByte i), p)) (hlen : k.requiredLength p = some p.length)
    (hserve : s.serveSession k i p = some (s.ifOpen i served)) (h : served = (core, a)) :
    exec cmd s = .next (afterReply core (replyTo k (sessionByte i) a.status a.fields)) :=
  exec_sessionRequest hs hreq hlen (hserve.trans (congrArg some ((State.ifOpen_open hopen _).trans h)))

section Reports

variable {s core : State} {i : SessionId} {tag : Byte} {a : Answer} (hs : s.linkReady)
  (hopen : (s.session i).state ≠ .closed)
include hs hopen

theorem exec_start {size : BitVec 32} (h : s.serveStart i tag size.toNat = (core, a)) :
    exec (.fetchStart (clean (sessionByte i)) tag size) s =
      .next (afterReply core (replyTo .start (sessionByte i) a.status a.fields)) := by
  rw [← field32_cons_le32 tag size] at h
  exact exec_openRequest hs hopen rfl rfl rfl h

theorem exec_progress {count : BitVec 32} (h : s.serveProgress i tag count.toNat = (core, a)) :
    exec (.fetchProgress (clean (sessionByte i)) tag count) s =
      .next (afterReply core (replyTo .progress (sessionByte i) a.status a.fields)) := by
  rw [← field32_cons_le32 tag count] at h
  exact exec_openRequest hs hopen rfl rfl rfl h

theorem exec_done {total : BitVec 32} (h : s.serveDone i tag total.toNat = (core, a)) :
    exec (.fetchDone (clean (sessionByte i)) tag total) s =
      .next (afterReply core (replyTo .done (sessionByte i) a.status a.fields)) := by
  rw [← field32_cons_le32 tag total] at h
  exact exec_openRequest hs hopen rfl rfl rfl h

theorem exec_fail {reason : Byte} (h : s.serveFail i tag reason.toNat = (core, a)) :
    exec (.fetchFail (clean (sessionByte i)) tag reason) s =
      .next (afterReply core (replyTo .fail (sessionByte i) a.status a.fields)) :=
  exec_openRequest hs hopen rfl rfl rfl h

end Reports

/-- Settles O35: each of the four owners looks for the record of the tag first. -/
theorem staleReportsRefused : Obligations.StaleReportsRefused := by
  intro i tag n reason s hs hopen hstale
  have hnone := State.matchReport_stale hstale
  exact ⟨exec_start hs hopen (by rw [State.serveStart, hnone]), exec_progress hs hopen (by rw [State.serveProgress, hnone]),
    exec_done hs hopen (by rw [State.serveDone, hnone]), exec_fail hs hopen (by rw [State.serveFail, hnone])⟩

/-! ### START (R149) -/

/-- The record made ACTIVE (R87). -/
theorem State.activate_eq (s : State) (i : SessionId) (f : FetchRecord) : s.activate i f =
    { State.withSession s i { s.session i with fetch := some { f with state := .active } } with
      meter := s.meter.oneMoreActive s.partTime } := by
  rw [State.activate, LinkMeter.activeUp_eq]
  rfl

/-- Settles O36, by the state of the record. -/
theorem startActivatesRecord : Obligations.StartActivatesRecord := by
  intro i f size s hs hopen hf
  refine ⟨fun hordered => exec_start (a := .plain) hs hopen ?_,
    fun hactive => exec_start (a := .refuse .wrongState) hs hopen ?_⟩
  · simp only [State.serveStart, State.matchReport_tag hf, hordered, State.takeStart, State.activate_eq]
    rfl
  · simp only [State.serveStart, State.matchReport_tag hf, hactive]

/-! ### PROGRESS (R150, R167) -/

/-- A PROGRESS makes an ORDERED record ACTIVE, and an ACTIVE one stays as it is (R87, R150). -/
theorem State.promote_eq {s : State} {i : SessionId} {f : FetchRecord} (hf : (s.session i).fetch = some f) :
    (if f.state = .ordered then s.activate i f else s) =
      { State.withSession s i { s.session i with fetch := some { f with state := .active } } with
        meter := activeMeter f s.meter s.partTime } := by
  unfold activeMeter
  cases hstate : f.state with
  | ordered =>
    rw [if_pos rfl, if_pos rfl, State.activate_eq]
  | active =>
    have hsame : ({ s.session i with fetch := some { f with state := .active } } : Session) = s.session i := by
      rw [← hstate, ← hf]
    rw [if_neg FetchState.noConfusion, if_neg FetchState.noConfusion, hsame]
    exact (s.setSession_session i).symm

/-- What a PROGRESS with a count above Rcv leaves before the examination (R86, R150). -/
def State.progressed (s : State) (i : SessionId) (f : FetchRecord) (count : Nat) : State :=
  { State.withSession s i { s.session i with fetch := some { f with
      state := .active
      received := count
      expected := max f.expected count
      activityExpiry := s.partTime + BitVec.ofNat 32 s.settings.activityTimeout } } with
    meter := { activeMeter f s.meter s.partTime with bytes := s.meter.bytes + (count - f.received) } }

theorem State.session_progressed (s : State) (i : SessionId) (f : FetchRecord) (count : Nat) :
    (s.progressed i f count).session i = { s.session i with fetch := some { f with
      state := .active
      received := count
      expected := max f.expected count
      activityExpiry := s.partTime + BitVec.ofNat 32 s.settings.activityTimeout } } := Four.get_set_same _ _ _

theorem activeMeter_bytes (f : FetchRecord) (m : LinkMeter) (now : PartTime) : (activeMeter f m now).bytes = m.bytes := by
  unfold activeMeter
  split <;> rfl

theorem State.takeProgress_held {s : State} {i : SessionId} {f : FetchRecord} {count : Nat}
    (hf : (s.session i).fetch = some f) (hle : count ≤ f.received) : s.takeProgress i f count =
      { State.withSession s i { s.session i with fetch := some { f with state := .active } } with
        meter := activeMeter f s.meter s.partTime } := by
  rw [State.takeProgress, if_neg (Nat.not_lt.mpr hle), State.promote_eq hf]

theorem State.takeProgress_above {s : State} {i : SessionId} {f : FetchRecord} {count : Nat}
    (hf : (s.session i).fetch = some f) (hlt : f.received < count) :
    s.takeProgress i f count = (s.progressed i f count).examineAfterProgress i := by
  rw [State.takeProgress, if_pos hlt, State.promote_eq hf]
  refine congrArg (State.examineAfterProgress · i) ?_
  rw [State.progressed, ← activeMeter_bytes f s.meter s.partTime]
  simp only [State.advanceReceived, State.setFetch, State.updSession, State.setSession, State.withSession,
    State.creditBytes, State.setMeter, State.session, Four.get_set_same, Four.set_set]
  rfl

theorem State.serveProgress_matched {s : State} {i : SessionId} {f : FetchRecord} (hf : (s.session i).fetch = some f)
    (count : Nat) : s.serveProgress i f.tag count = (s.takeProgress i f count, .plain) := by
  simp only [State.serveProgress, State.matchReport_tag hf]

theorem State.examine_ineligible {s : State} {i : SessionId} {f : FetchRecord} (hf : (s.session i).fetch = some f)
    (h : s.examinable i f = false) : s.examine i = none := by
  simp [State.examine, hf, h]

/-- Settles O37: by whether the count is above Rcv, and then an examination ends before the remaining time. -/
theorem progressCountsBytes : Obligations.ProgressCountsBytes := by
  intro i f count s hs hopen hf r m reply run
  have hrun : run = .next (afterReply (s.takeProgress i f count.toNat) reply) :=
    exec_progress hs hopen (State.serveProgress_matched hf _)
  rw [hrun]
  refine ⟨fun hle => by rw [State.takeProgress_held hf hle], fun hlt hkept => ?_⟩
  have hsession := s.session_progressed i f count.toNat
  have hexamine : (s.progressed i f count.toNat).examine i = none := by
    refine State.examine_ineligible (by rw [hsession]) ?_
    rw [State.examinable, hsession]
    rcases hkept with h | h | h | h | h
    · have : (s.progressed i f count.toNat).settings.abandonment = false := h
      simp [this]
    · simp [show f.rung ≤ (s.session i).floor from h]
    · simp [h]
    · simp [h]
    · simp [show (s.session i).state ≠ .playing from h]
  rw [State.takeProgress_above hf hlt, State.examineAfterProgress, hexamine]
  rfl

/-! ### FAIL (R154) -/

theorem State.serveFail_matched {s : State} {i : SessionId} {f : FetchRecord} (hf : (s.session i).fetch = some f)
    (reason : Nat) : s.serveFail i f.tag reason =
      if 1 ≤ reason ∧ reason ≤ 3 then (s.failFetch i f none, .plain) else (s, .refuse .badField) := by
  simp only [State.serveFail, State.matchReport_tag hf]

/-- Settles O40, by the bounds of the reason. -/
theorem failIsHandled : Obligations.FailIsHandled := by
  intro i f reason s hs hopen hf
  refine ⟨fun hreason => ⟨_, State.handedOver_reexamine _ i _ true, ?_⟩, fun hreason => ?_⟩
  · rw [← State.failFetch_eq]
    exact exec_fail hs hopen ((State.serveFail_matched hf _).trans (if_pos hreason))
  · exact exec_fail hs hopen ((State.serveFail_matched hf _).trans (if_neg (by omega)))

end Sys2Proof.Machine

/-! O39. DONE: the completion of a fetch, field by field (R70, R71, R104, R107, R124, R142, R151 to R153, R157). -/

namespace Sys2Proof.Machine

open Sys2Proof

/-! ### The record as each step of a completion leaves it (R104, R107, R124, R153) -/

/-- The size table learns from a total above 0, by the steps of R104 (R107). -/
theorem Session.learn_eq {r : Session} (hr : r.ratiosFit) (k total : Nat) : r.learn k total = { r with
    ladder := if total = 0 then r.ladder else r.ladder.modify k fun e =>
      { e with
        ratio := (3 * e.ratio + max (max 64 (e.ratio / 2))
          (min (min 1023 (2 * e.ratio)) (total * 256 / (r.bitrate k * r.segmentMs / 8))) + 2) / 4
        observed := true } } := by
  unfold Session.learn
  split
  · rfl
  · refine congrArg (fun l => ({ r with ladder := l } : Session)) (List.ext_getElem? fun j => ?_)
    rw [List.getElem?_modify, List.getElem?_modify]
    refine Option.map_congr fun e he => ?_
    obtain ⟨hmin, hmax⟩ := hr e (List.mem_of_getElem? he)
    rw [learnedRatio_eq hmin hmax]
    rfl

theorem Session.recordCompletion_eq (r : Session) (k : Nat) : r.recordCompletion k = { r with
    activeRung := k, upHold := if k = r.activeRung then min (r.upHold + 1) 15 else 1 } := by
  unfold Session.recordCompletion
  split
  · next hk => rw [hk]
  · rfl

theorem Session.advance_eq (r : Session) (segment : Nat) : r.advance segment = { r with
    nextSegment := segment + 1
    allFetched := r.allFetched || decide (r.live = false ∧ r.lastSegment = some segment)
    attempts := 0 } := by
  have hlast : (!r.live && r.lastSegment == some segment) = decide (r.live = false ∧ r.lastSegment = some segment) := by
    rw [Bool.eq_iff_iff]
    simp
  rw [Session.advance, hlast]

/-- The record of a completion before the priming threshold is examined: credited, learned from and moved to the next segment
(R152). -/
def Session.credited (r : Session) (now : PartTime) (f : FetchRecord) (total : Nat) : Session :=
  (((({ r with fetch := none } : Session).learn f.rung total).recordCompletion f.rung).advance f.segment).credit now

theorem Session.credited_eq {r : Session} (hr : r.ratiosFit) (now : PartTime) (f : FetchRecord) (total : Nat) :
    r.credited now f total = { r with
      ladder := if total = 0 then r.ladder else r.ladder.modify f.rung fun e =>
        { e with
          ratio := (3 * e.ratio + max (max 64 (e.ratio / 2))
            (min (min 1023 (2 * e.ratio)) (total * 256 / (r.bitrate f.rung * r.segmentMs / 8))) + 2) / 4
          observed := true }
      activeRung := f.rung
      upHold := if f.rung = r.activeRung then min (r.upHold + 1) 15 else 1
      nextSegment := f.segment + 1
      allFetched := r.allFetched || decide (r.live = false ∧ r.lastSegment = some f.segment)
      attempts := 0
      storedLevel := min (r.level now + r.segmentMs) 120000
      refTime := now
      fetch := none } := by
  have hended : ({ r with fetch := none } : Session).ratiosFit := hr
  rw [Session.credited, Session.learn_eq hended, Session.recordCompletion_eq, Session.advance_eq]
  rfl

/-! ### The priming threshold (R71) -/

theorem Session.starts_eq (r : Session) :
    r.starts = decide ((r.state = .priming ∨ r.state = .stalled) ∧ r.thresholdMet = true) := by
  rw [Bool.eq_iff_iff]
  simp [Session.starts]

theorem Session.state_afterThreshold_priming {r : Session} (h : r.state = .priming) : r.afterThreshold.state =
    if r.thresholdMet then (if r.autostart then .playing else .primed) else .priming := by
  simp only [Session.afterThreshold, Session.starts, Session.started, h]
  cases r.thresholdMet <;> simp [h]

theorem Session.state_afterThreshold_stalled {r : Session} (h : r.state = .stalled) : r.afterThreshold.state =
    if r.thresholdMet then .playing else .stalled := by
  simp only [Session.afterThreshold, Session.starts, Session.started, h]
  cases r.thresholdMet <;> simp [h]

theorem Session.afterThreshold_of_not_starts {r : Session} (h : r.starts = false) : r.afterThreshold = r := by
  simp [Session.afterThreshold, h]

theorem Session.autostart_afterThreshold (r : Session) : r.afterThreshold.autostart =
    (r.autostart && !(decide (r.state = .priming ∧ r.thresholdMet = true))) := by
  by_cases hstate : r.state = .priming
  · cases hmet : r.thresholdMet <;> simp [Session.afterThreshold, Session.starts, Session.started, hstate, hmet]
  · simp only [Session.afterThreshold, Session.started, hstate, if_false]
    split <;> simp

/-- Whether a completion meets the priming threshold: by the level it credits, or by the flag it may set (R71, R153). -/
theorem Session.thresholdMet_credited {r : Session} (hr : r.ratiosFit) (now : PartTime) (f : FetchRecord) (total : Nat) :
    (r.credited now f total).thresholdMet = true ↔ r.markS0 ≤ min (r.level now + r.segmentMs) 120000 ∨
      r.allFetched = true ∨ (r.live = false ∧ r.lastSegment = some f.segment) := by
  rw [Session.credited_eq hr]
  simp [Session.thresholdMet]

/-! ### The completion (R151, R152, R157) -/

/-- READY raised where a condition holds (R14). -/
theorem NoticeSet.raise_ready (n : NoticeSet) (b : Bool) :
    (if b then { n with ready := true } else n) = { n with ready := n.ready || b } := by
  cases b <;> simp

/-- A byte credit and the ending of a record write the meter side by side (R86, R87). -/
theorem State.endRecord_creditBytes {s : State} {i : SessionId} {f : FetchRecord} (hf : (s.session i).fetch = some f)
    (n : Nat) (why : Option CancelReason) : (s.creditBytes n).endRecord i why =
      (s.endRecord i why).setMeter { (s.endRecord i why).meter with bytes := s.meter.bytes + n } := by
  rw [s.endRecord_eq i why f hf, (s.creditBytes n).endRecord_eq i why f hf]
  cases f.state with
  | ordered => rfl
  | active => simp only [if_true, LinkMeter.activeDown_eq]; rfl

/-- What a completion leaves before the arbiter acts (R152). -/
def State.completed (s : State) (i : SessionId) (f : FetchRecord) (total : Nat) : State :=
  let e := s.endRecord i none
  (e.withControl i ((s.session i).completed s.partTime f total)
    { e.notices i with ready := (e.notices i).ready || ((s.session i).credited s.partTime f total).starts }).setMeter
      { e.meter with bytes := s.meter.bytes + (total - f.received) }

theorem State.complete_eq {s : State} {i : SessionId} {f : FetchRecord} (hf : (s.session i).fetch = some f) (total : Nat) :
    s.complete i f total = (s.completed i f total).reexamine i (s.toldUrgent i) true := by
  have hsession := s.session_endRecord_same i none
  rw [State.complete, State.endRecord_creditBytes hf]
  refine congrArg (State.reexamine · i (s.toldUrgent i) true) ?_
  dsimp only
  rw [State.examinePriming_control, NoticeSet.raise_ready, State.rearm_withControl, State.updSession,
    State.withControl_setSession, State.session_setSession_same, State.setMeter_session, hsession]
  rfl

theorem NoticeSet.ready_afterEnding (n : NoticeSet) (tag : Byte) (why : Option CancelReason) :
    (n.afterEnding tag why).ready = n.ready := by
  unfold NoticeSet.afterEnding
  split <;> rfl

theorem State.notices_endRecord {s : State} {i : SessionId} {f : FetchRecord} (hf : (s.session i).fetch = some f)
    (why : Option CancelReason) : (s.endRecord i why).notices i = (s.notices i).afterEnding f.tag why := by
  rw [s.endRecord_eq i why f hf]
  exact Four.get_set_same _ _ _

theorem State.doneGrants_endRecord (s : State) (i : SessionId) (why : Option CancelReason) :
    (s.endRecord i why).arbiter.doneGrants = s.arbiter.doneGrants := by
  cases hf : (s.session i).fetch with
  | none => rw [s.endRecord_none i why hf]
  | some f => rw [s.endRecord_eq i why f hf]

theorem State.noteDone_eq (s before : State) (i : SessionId) (f : FetchRecord) : s.noteDone before i f =
    { s with arbiter := { s.arbiter with
      doneGrants := if before.urgent i = false ∧ f.received * 4 < f.expected then
          s.arbiter.doneGrants.set f.slot (some f.grantTime)
        else s.arbiter.doneGrants } } := by
  unfold State.noteDone
  simp only [Bool.and_eq_true, Bool.not_eq_true', decide_eq_true_eq]
  split <;> rfl

theorem State.serveDone_matched {s : State} {i : SessionId} {f : FetchRecord} (hf : (s.session i).fetch = some f)
    (total : Nat) : s.serveDone i f.tag total = ((s.complete i f (max total f.received)).noteDone s i f, .plain) := by
  simp only [State.serveDone, State.matchReport_tag hf]

/-- Settles O39: the record is `Session.completed`, which the priming threshold has moved on, and READY is raised with it. -/
theorem doneCompletesFetch : Obligations.DoneCompletesFetch := by
  intro i f total s hs hopen hf r t n last level met st left hratios e noted
  have hcredited := Session.credited_eq (r := r) hratios s.partTime f t
  have hmet : (r.credited s.partTime f t).thresholdMet = true ↔ met := Session.thresholdMet_credited hratios _ _ _
  have hstate : (r.credited s.partTime f t).state = r.state := by rw [hcredited]
  have hplay : (r.credited s.partTime f t).autostart = r.autostart := by rw [hcredited]
  have hnext : (r.credited s.partTime f t).afterThreshold.state = st := by
    cases hr : r.state
    case priming =>
      rw [Session.state_afterThreshold_priming (hstate.trans hr), hplay]
      simp only [hmet, st, hr]
    case stalled =>
      rw [Session.state_afterThreshold_stalled (hstate.trans hr)]
      simp only [hmet, st, hr]
    all_goals
      rw [Session.afterThreshold_of_not_starts (by simp [Session.starts_eq, hstate, hr]), hstate]
      simp only [st, hr]
  have hrecord : r.completed s.partTime f t = left := by
    refine congrArg Session.rearm ((r.credited s.partTime f t).afterThreshold_keeps.trans ?_)
    simp only [hnext, Session.autostart_afterThreshold, hmet, hstate, hplay]
    rw [hcredited]
    rfl
  have hready : ((e.notices i).ready || (r.credited s.partTime f t).starts) =
      ((s.notices i).ready || decide ((r.state = .priming ∨ r.state = .stalled) ∧ met)) := by
    rw [State.notices_endRecord hf, NoticeSet.ready_afterEnding]
    simp only [Session.starts_eq, hmet, hstate]
  have hnoted : (s.completed i f t).arbiter.doneGrants = s.arbiter.doneGrants := s.doneGrants_endRecord i none
  refine ⟨(s.completed i f t).reexamine i (s.toldUrgent i) true, ?_, ?_⟩
  · rw [exec_done hs hopen (State.serveDone_matched hf _), State.complete_eq hf, State.noteDone_eq,
      (State.reexamine_only _ _ _ _).doneGrants, hnoted]
    rfl
  · rw [State.completed, hrecord, hready]
    exact State.handedOver_reexamine _ i _ true

end Sys2Proof.Machine

/-! O57. A fetch record carries its session's tag counter and next segment over every event (R54, R143, R144): a write of either
finds no record, or creates the record with it. -/

namespace Sys2Proof.Machine

open Sys2Proof

/-! ### One session's record (R143, R144) -/

/-- The record's part of `RecordMatchesSession`. -/
def Session.named (r : Session) : Prop := ∀ f, r.fetch = some f → f.tag = r.tagCounter ∧ f.segment = r.nextSegment

theorem recordMatchesSession_iff (s : State) : RecordMatchesSession s ↔ ∀ i, (s.session i).named := Iff.rfl

theorem Session.named_of_none {r : Session} (h : r.fetch = none) : r.named := fun f hf => by simp [h] at hf

/-- What `Session.named` reads of a session's record: the fetch record, the tag counter and the next segment. -/
def Session.naming (r : Session) : Option FetchRecord × Byte × Nat := (r.fetch, r.tagCounter, r.nextSegment)

theorem Session.named_of_naming {r r' : Session} (h : r'.naming = r.naming) (hr : r.named) : r'.named := by
  simp only [Session.naming, Prod.mk.injEq] at h
  obtain ⟨hfetch, htag, hsegment⟩ := h
  rwa [Session.named, hfetch, htag, hsegment]

/-- A record with the tag and the segment of the one it replaces. -/
theorem Session.named_replaced {r : Session} (hr : r.named) {f g : FetchRecord} (hf : r.fetch = some f)
    (htag : g.tag = f.tag) (hsegment : g.segment = f.segment) : ({ r with fetch := some g } : Session).named :=
  fun e he => by
    cases he
    rw [htag, hsegment]
    exact hr f hf

theorem Session.naming_of_control {now : PartTime} {r r' : Session} (h : ControlOnly now r r') : r'.naming = r.naming := by
  rw [h.fields]; rfl

theorem Session.naming_afterThreshold (r : Session) : r.afterThreshold.naming = r.naming := by
  rw [r.afterThreshold_keeps]; rfl

theorem Session.naming_afterZero (r : Session) (now : PartTime) : (r.afterZero now).naming = r.naming := by
  unfold Session.afterZero
  split
  · split <;> rfl
  · rfl

/-! ### What keeps the records named -/

namespace RecordMatchesSession

variable {s t : State}

theorem ite {c : Prop} [Decidable c] (hs : RecordMatchesSession s) (ht : RecordMatchesSession t) :
    RecordMatchesSession (if c then s else t) := by split <;> assumption

theorem foldl {α : Type} {step : State → α → State}
    (hstep : ∀ t a, RecordMatchesSession t → RecordMatchesSession (step t a)) (l : List α) (hs : RecordMatchesSession s) :
    RecordMatchesSession (l.foldl step s) := List.foldlRecOn l step hs fun t ht a _ => hstep t a ht

/-- Writes beside the sessions. -/
theorem beside (hs : RecordMatchesSession s) (h : t.sessions = s.sessions) : RecordMatchesSession t := by
  unfold RecordMatchesSession State.session
  rw [h]
  exact hs

theorem aside (hs : RecordMatchesSession s) (h : Aside s t) : RecordMatchesSession t := fun i =>
  Session.named_of_naming (by rw [h.session i]; rfl) (hs i)

/-- An act of the arbiter keeps a record or creates it with the tag counter raised and the next segment (R145). -/
theorem arbiter (hs : RecordMatchesSession s) (h : ArbiterOnly s t) : RecordMatchesSession t := fun i f hf => by
  have hnext : (t.session i).nextSegment = (s.session i).nextSegment := by rw [h.session i]
  rw [hnext]
  obtain ⟨hkept, htag⟩ | ⟨htag, hsegment, _⟩ := h.record i f hf
  · rw [htag]
    exact hs i f hkept
  · exact ⟨htag, hsegment⟩

theorem grantAll (hs : RecordMatchesSession s) : RecordMatchesSession s.grantAll := hs.arbiter s.grantAll_only

theorem considerAll (hs : RecordMatchesSession s) : RecordMatchesSession s.considerAll := hs.arbiter s.considerAll_only

theorem reexamine (hs : RecordMatchesSession s) (i : SessionId) (wasUrgent freed : Bool) :
    RecordMatchesSession (s.reexamine i wasUrgent freed) := hs.arbiter (s.reexamine_only i wasUrgent freed)

/-- One session's record written, whatever else is written beside the sessions. -/
theorem written (hs : RecordMatchesSession s) {i : SessionId} {r : Session} (h : t.sessions = s.sessions.set i r)
    (hr : r.named) : RecordMatchesSession t := (recordMatchesSession_iff _).mpr fun j => by
  rw [State.session, h, Four.get_set]
  split
  · exact hr
  · exact hs j

/-- A write that leaves the fetch record, the tag counter and the next segment. -/
theorem updSession (hs : RecordMatchesSession s) (i : SessionId) {f : Session → Session}
    (h : ∀ r, (f r).naming = r.naming) : RecordMatchesSession (s.updSession i f) :=
  hs.written rfl (Session.named_of_naming (h _) (hs i))

/-- The expiries rearmed, and the arbiter handed the session (R65, R130). -/
theorem settle (hs : RecordMatchesSession s) (i : SessionId) (wasUrgent freed : Bool) :
    RecordMatchesSession (s.settle i wasUrgent freed) :=
  (hs.updSession i (f := Session.rearm) fun _ => rfl).reexamine i wasUrgent freed

theorem endRecord (hs : RecordMatchesSession s) (i : SessionId) (why : Option CancelReason) :
    RecordMatchesSession (s.endRecord i why) := (recordMatchesSession_iff _).mpr fun j => by
  rw [State.session_endRecord]
  split
  · exact Session.named_of_none rfl
  · exact hs j

/-! ### The fetch lifecycle (R149 to R157, R170) -/

theorem failFetch (hs : RecordMatchesSession s) (i : SessionId) (f : FetchRecord) (why : Option CancelReason) :
    RecordMatchesSession (s.failFetch i f why) := by
  rw [State.failFetch_eq]
  refine reexamine ?_ i _ true
  have hended := hs.endRecord i why
  unfold State.afterFailure
  dsimp only
  split
  · exact hended.written rfl (Session.named_of_none rfl)
  · split
    · exact hended.written rfl (Session.named_of_none rfl)
    · exact hended.written rfl (Session.named_of_none rfl)

theorem complete (hs : RecordMatchesSession s) {i : SessionId} {f : FetchRecord} (hf : (s.session i).fetch = some f)
    (total : Nat) : RecordMatchesSession (s.complete i f total) := by
  have hcompleted : RecordMatchesSession (s.completed i f total) :=
    (hs.endRecord i none).written rfl (Session.named_of_none (Session.fetch_completed _ _ _ _))
  rw [State.complete_eq hf]
  exact hcompleted.reexamine i _ true

theorem abandon (hs : RecordMatchesSession s) (i : SessionId) (rung : Nat) : RecordMatchesSession (s.abandon i rung) :=
  (hs.endRecord i _).updSession i fun _ => rfl

theorem examineAfterProgress (hs : RecordMatchesSession s) (i : SessionId) :
    RecordMatchesSession (s.examineAfterProgress i) := by
  unfold State.examineAfterProgress
  split
  · exact hs
  · exact (hs.abandon i _).reexamine i _ true

theorem examineAll (hs : RecordMatchesSession s) : RecordMatchesSession s.examineAll := by
  have hgivenUp : RecordMatchesSession s.givenUp := foldl (fun t i ht => by
    cases s.examine i with
    | none => exact ht
    | some k => exact ht.abandon i k) _ hs
  exact hgivenUp.arbiter s.examineAll_only

theorem serveStart (hs : RecordMatchesSession s) (i : SessionId) (tag : Byte) (size : Nat) :
    RecordMatchesSession (s.serveStart i tag size).1 := by
  unfold State.serveStart
  split
  · exact hs
  · next f hf =>
    split
    · rw [State.takeStart, State.activate_eq]
      exact hs.written rfl (Session.named_replaced (hs i) (State.matchReport_eq_some hf) rfl rfl)
    · exact hs

theorem takeProgress (hs : RecordMatchesSession s) {i : SessionId} {f : FetchRecord} (hf : (s.session i).fetch = some f)
    (count : Nat) : RecordMatchesSession (s.takeProgress i f count) := by
  by_cases hlt : f.received < count
  · have hprogressed : RecordMatchesSession (s.progressed i f count) :=
      hs.written rfl (Session.named_replaced (hs i) hf rfl rfl)
    rw [State.takeProgress_above hf hlt]
    exact hprogressed.examineAfterProgress i
  · rw [State.takeProgress_held hf (Nat.le_of_not_lt hlt)]
    exact hs.written rfl (Session.named_replaced (hs i) hf rfl rfl)

theorem serveProgress (hs : RecordMatchesSession s) (i : SessionId) (tag : Byte) (count : Nat) :
    RecordMatchesSession (s.serveProgress i tag count).1 := by
  unfold State.serveProgress
  split
  · exact hs
  · next f hf => exact hs.takeProgress (State.matchReport_eq_some hf) count

theorem serveDone (hs : RecordMatchesSession s) (i : SessionId) (tag : Byte) (total : Nat) :
    RecordMatchesSession (s.serveDone i tag total).1 := by
  unfold State.serveDone
  split
  · exact hs
  · next f hf => exact (hs.complete (State.matchReport_eq_some hf) _).aside (.noteDone _ s i f)

theorem serveFail (hs : RecordMatchesSession s) (i : SessionId) (tag : Byte) (reason : Nat) :
    RecordMatchesSession (s.serveFail i tag reason).1 := by
  unfold State.serveFail
  split
  · exact hs
  · split
    · exact hs.failFetch i _ none
    · exact hs

/-! ### The other session requests (ch. 3, ch. 4) -/

theorem playedAlone (hs : RecordMatchesSession s) (i : SessionId) : RecordMatchesSession (s.playedAlone i) := by
  have hcontrol : RecordMatchesSession (s.playControl i) :=
    hs.written rfl (Session.named_of_naming (Session.naming_of_control (Session.afterPlay_control _ _)) (hs i))
  rw [s.playedAlone_eq]
  exact ite (hcontrol.reexamine i _ false) hcontrol

theorem pausedAlone (hs : RecordMatchesSession s) (i : SessionId) : RecordMatchesSession (s.pausedAlone i) := by
  have hcontrol : RecordMatchesSession (s.pauseControl i) :=
    hs.written rfl (Session.named_of_naming (Session.naming_of_control (Session.afterPause_control _ _)) (hs i))
  rw [s.pausedAlone_eq]
  exact ite (hcontrol.reexamine i _ false) hcontrol

/-- PLAY or PAUSE of one session, taken or refused (R73). -/
theorem answerOne (hs : RecordMatchesSession s) (taken : Bool) (ht : RecordMatchesSession t) :
    RecordMatchesSession (answerOne s (if taken then some t else none)).1 := by
  cases taken with
  | true => exact ht
  | false => exact hs

theorem servePlayout (hs : RecordMatchesSession s) (i : SessionId) (level : Nat) :
    RecordMatchesSession (s.servePlayout i level).1 := by
  cases h : (s.session i).takesControl with
  | false => rw [State.servePlayout_refused h]; exact hs
  | true =>
    have hnaming : ((((s.session i).writeLevel s.partTime (min level 120000)).afterThreshold).afterZero s.partTime).naming =
        (s.session i).naming := (Session.naming_afterZero _ _).trans (Session.naming_afterThreshold _)
    rw [State.servePlayout_taken h, State.playedOut_control]
    exact (hs.written rfl (Session.named_of_naming hnaming (hs i))).reexamine i _ false

theorem serveEdge (hs : RecordMatchesSession s) (i : SessionId) (segment : Nat) :
    RecordMatchesSession (s.serveEdge i segment).1 := by
  unfold State.serveEdge
  dsimp only
  split
  · split
    · exact (hs.updSession i (f := fun r => { r with liveEdge := segment }) fun _ => rfl).reexamine i _ false
    · exact hs
  · exact hs

theorem serveOpen (hs : RecordMatchesSession s) (i : SessionId) (o : OpenRequest) :
    RecordMatchesSession (s.serveOpen i o).1 := by
  unfold State.serveOpen
  split
  · exact hs
  · split
    · exact (hs.written rfl (Session.named_of_none rfl)).reexamine i false false
    · exact hs

/-- SEEK ends the record before it writes the next segment (R78). -/
theorem serveSeek (hs : RecordMatchesSession s) (i : SessionId) (segment : Nat) :
    RecordMatchesSession (s.serveSeek i segment).1 := by
  unfold State.serveSeek
  split
  · exact hs
  · have hended : RecordMatchesSession ((s.endRecord i none).removeEntry i) := (hs.endRecord i none).beside rfl
    have hnone : (((s.endRecord i none).session i).seekTo s.partTime segment).fetch = none := by
      rw [State.session_endRecord_same]
      rfl
    have hsought : RecordMatchesSession (((s.endRecord i none).removeEntry i).updSession i fun r =>
        r.seekTo s.partTime segment) := hended.written rfl (Session.named_of_none hnone)
    exact hsought.settle i _ _

theorem shut (hs : RecordMatchesSession s) (i : SessionId) : RecordMatchesSession (s.shut i) := by
  rw [State.shut_eq]
  exact (hs.endRecord i none).written rfl (Session.named_of_none rfl)

theorem serveClose (hs : RecordMatchesSession s) (i : SessionId) : RecordMatchesSession (s.serveClose i).1 :=
  ite (hs.shut i).grantAll (hs.shut i)

/-! ### The device requests (ch. 8, ch. 11) -/

theorem serveConfigure (hs : RecordMatchesSession s) (c : ConfigRequest) : RecordMatchesSession (s.serveConfigure c).1 := by
  unfold State.serveConfigure
  split
  · exact hs
  · exact hs.beside rfl

theorem serveResetSessions (hs : RecordMatchesSession s) : RecordMatchesSession s.serveResetSessions.1 := by
  have hshut : RecordMatchesSession (Idx4.all.foldl State.shutIfOpen s) := foldl (fun _ i ht => ite (ht.shut i) ht) _ hs
  unfold State.serveResetSessions
  dsimp only
  exact hshut.grantAll

/-- After the sessions are shut, RESET of scope 2 writes beside them and grants (R179). -/
theorem serveResetAll (hs : RecordMatchesSession s) : RecordMatchesSession s.serveResetAll.1 := by
  have hshut := hs.serveResetSessions
  unfold State.serveResetAll
  generalize s.serveResetSessions.1 = u at hshut
  have hcleared : ∀ m c a, RecordMatchesSession (((u.setMeter m).setSettings c).setArbiter a) := fun _ _ _ =>
    hshut.beside rfl
  exact (hcleared _ _ _).grantAll.aside (.setLink _ _)

theorem serveReset (hs : RecordMatchesSession s) (scope : Nat) : RecordMatchesSession (s.serveReset scope).1 := by
  unfold State.serveReset
  split
  · exact hs.serveResetSessions
  · split
    · exact hs.serveResetAll
    · exact hs

theorem serveGrantHold (hs : RecordMatchesSession s) (value : Nat) : RecordMatchesSession (s.serveGrantHold value).1 := by
  unfold State.serveGrantHold State.serveHold State.serveRelease
  split
  · exact hs.beside rfl
  · split
    · split
      · exact (hs.aside (.setHold s false)).grantAll.considerAll
      · exact hs
    · exact hs

/-! ### Serving a request (R8, R9, R38) -/

theorem ifOpen (hs : RecordMatchesSession s) (i : SessionId) {a : State × Answer} (ha : RecordMatchesSession a.1) :
    RecordMatchesSession (s.ifOpen i a).1 := by
  unfold State.ifOpen
  split
  · exact ha
  · exact hs

theorem serveDevice (hs : RecordMatchesSession s) {k : ReqKind} {p : List Byte} {r : State × Answer}
    (h : s.serveDevice k p = some r) : RecordMatchesSession r.1 := by
  cases k <;> cases h
  case configure => exact hs.serveConfigure _
  case reset => exact hs.serveReset _
  case grantHold => exact hs.serveGrantHold _
  case hello | queryLink | history => exact hs

theorem serveSession (hs : RecordMatchesSession s) {k : ReqKind} {i : SessionId} {p : List Byte} {r : State × Answer}
    (h : s.serveSession k i p = some r) : RecordMatchesSession r.1 := by
  cases k <;> cases h
  case openSession => exact hs.serveOpen i _
  case querySession => exact hs
  all_goals refine hs.ifOpen i ?_
  case closeSession => exact hs.serveClose i
  case play => rw [s.playOne_eq]; exact hs.answerOne _ (hs.playedAlone i)
  case pause => rw [s.pauseOne_eq]; exact hs.answerOne _ (hs.pausedAlone i)
  case seek => exact hs.serveSeek i _
  case limits => exact hs.updSession i fun _ => rfl
  case playout => exact hs.servePlayout i _
  case edge => exact hs.serveEdge i _
  case start => exact hs.serveStart i _ _
  case progress => exact hs.serveProgress i _ _
  case done => exact hs.serveDone i _ _
  case fail => exact hs.serveFail i _ _

theorem serveAll (hs : RecordMatchesSession s) {k : ReqKind} {r : State × Answer} (h : s.serveAll k = some r) :
    RecordMatchesSession r.1 := by
  have hplayed : RecordMatchesSession (Idx4.all.foldl State.playedAlone s) := foldl (fun _ i ht => ht.playedAlone i) _ hs
  have hpaused : RecordMatchesSession (Idx4.all.foldl State.pausedAlone s) := foldl (fun _ i ht => ht.pausedAlone i) _ hs
  cases k <;> cases h
  case play =>
    rw [s.broadcast_eq State.playOne_eq State.playedAlone_refused ArbiterOnly.playedAlone State.playControl_other]
    dsimp only
    exact hplayed
  case pause =>
    rw [s.broadcast_eq State.pauseOne_eq State.pausedAlone_refused ArbiterOnly.pausedAlone State.pauseControl_other]
    dsimp only
    exact hpaused

theorem serve (hs : RecordMatchesSession s) (k : ReqKind) (target : Byte) (p : List Byte) :
    RecordMatchesSession (s.serve k target p).1 := by
  have hget : ∀ o : Option (State × Answer), (∀ r, o = some r → RecordMatchesSession r.1) →
      RecordMatchesSession (o.getD (s, .refuse .badTarget)).1 := by
    rintro (_ | r) h
    · exact hs
    · exact h r rfl
  unfold State.serve
  refine hget _ fun r h => ?_
  split at h
  · exact hs.serveDevice h
  · exact hs.serveSession h
  · exact hs.serveAll h
  · cases h

/-! ### The receiver and the transmitter (R3 to R7, R19) -/

theorem checkFrame (hs : RecordMatchesSession s) (kind target len : Byte) (p : List Byte) (sum : Byte) :
    RecordMatchesSession (s.checkFrame kind target len p sum) := by
  unfold State.checkFrame
  split
  · exact hs.beside rfl
  · split
    · exact hs.beside rfl
    · next k _ =>
      split
      · exact hs.beside rfl
      · exact (hs.serve k target p).beside rfl

theorem transmitReply (hs : RecordMatchesSession s) : RecordMatchesSession s.transmitReply := by
  unfold State.transmitReply
  split
  · exact hs.beside rfl
  all_goals exact hs

theorem leaveIdle (hs : RecordMatchesSession s) : RecordMatchesSession s.leaveIdle := hs.aside (.leaveIdle s)

theorem completeFrame (hs : RecordMatchesSession s) (kind target len : Byte) (p : List Byte) (sum : Byte) :
    RecordMatchesSession (s.completeFrame kind target len p sum) := by
  have hchosen : RecordMatchesSession (if s.clearsNext kind target len p sum then s else s.leaveIdle) := ite hs hs.leaveIdle
  exact ite (hchosen.beside rfl) (hchosen.checkFrame _ _ _ _ _)

theorem takeByte (hs : RecordMatchesSession s) (b : Byte) : RecordMatchesSession (s.takeByte b) := by
  have hmove : ∀ f, RecordMatchesSession (s.moveFramer f) := fun _ => hs.beside rfl
  unfold State.takeByte
  split
  · exact ite (hmove _) hs
  · exact hmove _
  · exact hmove _
  · exact ite (hmove _) (hmove _)
  · exact ite (hmove _) (hmove _)
  · exact ((hs.beside (t := s.resetFramer) rfl).completeFrame _ _ _ _ _).transmitReply

theorem receive (hs : RecordMatchesSession s) (b : Byte) : RecordMatchesSession (s.receive b) := ite (hs.takeByte b) hs

theorem endFrame (hs : RecordMatchesSession s) : RecordMatchesSession s.endFrame := by
  unfold State.endFrame
  split
  · exact hs
  all_goals exact hs.beside rfl

/-! ### The expiries, the contention code and the advance (R25 to R31, R66 to R68, R88, R156) -/

theorem fallActivity (hs : RecordMatchesSession s) (i : SessionId) : RecordMatchesSession (s.fallActivity i) := by
  unfold State.fallActivity
  split
  · exact hs
  · exact ite (hs.leaveIdle.failFetch i _ _) hs

theorem stallNow (hs : RecordMatchesSession s) (i : SessionId) : RecordMatchesSession (s.stallNow i) := by
  have hended : RecordMatchesSession (s.withSession i ((s.session i).endedAtZero s.partTime)) :=
    hs.updSession i (f := fun r => r.endedAtZero s.partTime) fun _ => rfl
  have hstalled : RecordMatchesSession (s.stalledAtZero i) :=
    (hs.updSession i (f := fun r => r.stalledAtZero s.partTime) fun _ => rfl).beside rfl
  rw [s.stallNow_eq]
  exact (ite hended hstalled).reexamine i _ false

theorem fallStall (hs : RecordMatchesSession s) (i : SessionId) : RecordMatchesSession (s.fallStall i) :=
  ite (hs.leaveIdle.stallNow i) hs

theorem fallLow (hs : RecordMatchesSession s) (i : SessionId) : RecordMatchesSession (s.fallLow i) :=
  ite ((hs.leaveIdle.updSession i (f := fun r => { r with lowExpiry := none }) fun _ => rfl).reexamine i false false) hs

theorem fallRefill (hs : RecordMatchesSession s) (i : SessionId) : RecordMatchesSession (s.fallRefill i) :=
  ite ((hs.leaveIdle.updSession i (f := fun r => { r with refillExpiry := none }) fun _ => rfl).reexamine i _ false) hs

theorem windowNow (hs : RecordMatchesSession s) : RecordMatchesSession s.windowNow := by
  have hmeter : ∀ m, RecordMatchesSession (s.setMeter m) := fun _ => hs.beside rfl
  exact ite (hmeter _).examineAll (hmeter _)

theorem fallWindow (hs : RecordMatchesSession s) : RecordMatchesSession s.fallWindow := ite hs.leaveIdle.windowNow hs

theorem fallGap (hs : RecordMatchesSession s) : RecordMatchesSession s.fallGap := ite (hs.beside rfl) hs

theorem fallRdy (hs : RecordMatchesSession s) : RecordMatchesSession s.fallRdy := ite (hs.beside rfl) hs

theorem dealWithSample (hs : RecordMatchesSession s) (code : Code) : RecordMatchesSession (s.dealWithSample code) := by
  have hnoted : ∀ c, RecordMatchesSession (s.leaveIdle.setContention c) := fun _ => hs.leaveIdle.beside rfl
  have haccepted : ∀ {t : State}, RecordMatchesSession t → RecordMatchesSession (t.acceptCode code) := fun {t} ht =>
    (ht.beside (t := t.withCode code) rfl).arbiter (t.acceptCode_only code)
  exact ite (haccepted (hnoted _)) (hnoted _)

theorem settleSample (hs : RecordMatchesSession s) : RecordMatchesSession s.settleSample := by
  unfold State.settleSample
  split
  · exact hs
  · exact (hs.aside (.setContention s _)).dealWithSample _

theorem takeAllDue (hs : RecordMatchesSession s) : RecordMatchesSession s.takeAllDue := by
  have hsession : ∀ t i, RecordMatchesSession t → RecordMatchesSession (State.takeSession t i) := fun _ i ht =>
    (((ht.fallActivity i).fallStall i).fallRefill i).fallLow i
  exact (foldl hsession Idx4.all hs.fallGap.fallRdy.settleSample.fallWindow).leaveIdle

theorem advanceAs (hs : RecordMatchesSession s) (how : Advance) : RecordMatchesSession (s.advanceAs how) := by
  have hadvanced : RecordMatchesSession s.advance := hs.takeAllDue.beside rfl
  cases how with
  | atOnce cc => exact hadvanced.dealWithSample _
  | hold cc => exact hadvanced.beside rfl
  | settle => exact hs.settleSample

/-! ### Every command -/

/-- With every session as after a pin reset there is no record (R180). -/
theorem of_blank (h : s.sessions = Four.const Session.blank) : RecordMatchesSession s := fun i f hf => by
  rw [State.session, h, Four.get_const] at hf
  cases hf

theorem execEvent (hs : RecordMatchesSession s) {cmd : Instr} (hreq : requestOf cmd = none) (h : exec cmd s = .next t) :
    RecordMatchesSession t := by
  cases cmd <;> cases hreq <;> cases h
  case pinReset => exact of_blank rfl
  case nrstRelease baudHigh => exact ite hs (of_blank rfl)
  case rdyFirstRise => exact ite hs.fallRdy hs
  case partTimeAdvance how => exact ite (hs.advanceAs how) hs
  case interByteGapExpiry => exact ite hs.fallGap hs
  case activityExpiry i => exact ite (hs.fallActivity i) hs
  case stallExpiry i => exact ite (hs.fallStall i) hs
  case lowExpiry i => exact ite (hs.fallLow i) hs
  case refillExpiry i => exact ite (hs.fallRefill i) hs
  case windowExpiry => exact ite hs.fallWindow hs
  case frameSent => exact ite (hs.endFrame.aside (.chooseFrame _)) hs
  case characterReceived stopHigh b => exact ite (hs.receive b) hs

/-- A request is its frame's arrival, any other command its own event. -/
theorem exec (hs : RecordMatchesSession s) {cmd : Instr} (h : exec cmd s = .next t) : RecordMatchesSession t := by
  cases hreq : requestOf cmd with
  | none => exact hs.execEvent hreq h
  | some request =>
    rw [exec_request hreq] at h
    cases h
    exact foldl (fun _ b ht => ht.receive b) _ hs

end RecordMatchesSession

/-- Settles O57: every command keeps each record named by its session. -/
theorem recordsNameSegmentKept : Obligations.RecordsNameSegmentKept := by
  intro s t hs hstep
  unfold step at hstep
  split at hstep
  · cases hstep; exact hs
  · next rest _ => exact RecordMatchesSession.exec (s := { s with pending := rest }) (hs.beside rfl) hstep

end Sys2Proof.Machine

/-! O38. Giving a fetch up: the examination case by case, and the PROGRESS whose examination abandons the fetch (R150, R157,
R158, R166 to R170). -/

namespace Sys2Proof.Machine

open Sys2Proof

/-! ### Times at a share (R113, R168) -/

/-- The ms that bytes take at a share above 0 (R113). -/
def transferMs (bytes share : Nat) : Nat := (bytes * 8 + (share - 1)) / share

theorem transferTime_of_pos (bytes : Nat) {share : Nat} (h : 0 < share) :
    transferTime bytes share = some (transferMs bytes share) := if_neg h.ne'

@[simp] theorem timeWithin_some (t limit : Nat) : timeWithin (some t) limit = true ↔ t ≤ limit := decide_eq_true_iff

@[simp] theorem timeBelow_some (t u : Nat) : timeBelow (some t) (some u) = true ↔ t < u := decide_eq_true_iff

/-- No time satisfies a comparison with an unbounded one (R169). -/
@[simp] theorem timeBelow_unbounded (t : Option Nat) : timeBelow t none = false := by cases t <;> rfl

/-! ### The highest rung, from the condition (R169) -/

theorem highestRung_eq_none {lo hi : Nat} {ok : Nat → Bool} (h : ∀ j, lo ≤ j → j ≤ hi → ok j ≠ true) :
    highestRung lo hi ok = none :=
  Option.eq_none_iff_forall_ne_some.mpr fun k hk =>
    let ⟨hlo, hhi, hok⟩ := highestRung_mem hk
    h k hlo hhi hok

theorem highestRung_eq_some {lo hi k : Nat} {ok : Nat → Bool} (hlo : lo ≤ k) (hhi : k ≤ hi) (hok : ok k = true)
    (hmax : ∀ j, lo ≤ j → j ≤ hi → ok j = true → j ≤ k) : highestRung lo hi ok = some k := by
  cases hj : highestRung lo hi ok with
  | none => exact absurd hok (not_of_highestRung_none hj hlo hhi)
  | some j =>
    obtain ⟨hjlo, hjhi, hjok⟩ := highestRung_mem hj
    rw [(hmax j hjlo hjhi hjok).antisymm (le_of_highestRung hj hlo hhi hok)]

/-! ### The replacement rung (R169) -/

/-- The remaining time of a fetch at its session's share, where that is above 0 (R168). -/
def State.remainingMs (s : State) (i : SessionId) (f : FetchRecord) : Nat :=
  transferMs (f.expected - f.received) (s.share i)

/-- The predicted time of a rung at its session's share, where that is above 0 (R113). -/
def State.predictedMs (s : State) (i : SessionId) (k : Nat) : Nat :=
  transferMs ((s.session i).predictedSize k) (s.share i)

/-- A rung below the fetch's that would be there within the level and before the fetch's own remaining bytes (R169). -/
def State.canReplace (s : State) (i : SessionId) (f : FetchRecord) (k : Nat) : Prop :=
  (s.session i).floor ≤ k ∧ k < f.rung ∧ s.predictedMs i k ≤ s.level i ∧ s.predictedMs i k < s.remainingMs i f

theorem State.replacementRung_unbounded (s : State) (i : SessionId) (f : FetchRecord) :
    s.replacementRung i f none = none := by
  rw [State.replacementRung, highestRung_eq_none (by simp)]
  simp

section Replacement

variable {s : State} {i : SessionId} {f : FetchRecord}

theorem State.predictedTime_of_pos (hshare : 0 < s.share i) (k : Nat) :
    (s.session i).predictedTime (s.share i) k = some (s.predictedMs i k) := transferTime_of_pos _ hshare

/-- The search of R169 is for a rung that can replace the fetch's. -/
theorem State.canReplace_iff (hshare : 0 < s.share i) (habove : (s.session i).floor < f.rung) (k : Nat) :
    s.canReplace i f k ↔ (s.session i).floor ≤ k ∧ k ≤ f.rung - 1 ∧
      (timeWithin ((s.session i).predictedTime (s.share i) k) (s.level i) &&
        timeBelow ((s.session i).predictedTime (s.share i) k) (some (s.remainingMs i f))) = true := by
  rw [State.predictedTime_of_pos hshare, Bool.and_eq_true, timeWithin_some, timeBelow_some, State.canReplace,
    Nat.le_sub_one_iff_lt (Nat.zero_lt_of_lt habove)]

theorem State.replacementRung_highest (hshare : 0 < s.share i) (habove : (s.session i).floor < f.rung) {k : Nat}
    (hk : s.canReplace i f k) (hmax : ∀ j, s.canReplace i f j → j ≤ k) :
    s.replacementRung i f (some (s.remainingMs i f)) = some k := by
  obtain ⟨hlo, hhi, hok⟩ := (State.canReplace_iff hshare habove k).mp hk
  rw [State.replacementRung, highestRung_eq_some hlo hhi hok fun j hjlo hjhi hjok =>
    hmax j ((State.canReplace_iff hshare habove j).mpr ⟨hjlo, hjhi, hjok⟩)]

/-- Where no rung can replace the fetch's, the floor does if it is there before the fetch's own remaining bytes. -/
theorem State.replacementRung_floor (hshare : 0 < s.share i) (habove : (s.session i).floor < f.rung)
    (hnone : ∀ k, ¬ s.canReplace i f k) : s.replacementRung i f (some (s.remainingMs i f)) =
      if s.predictedMs i (s.session i).floor < s.remainingMs i f then some (s.session i).floor else none := by
  rw [State.replacementRung, highestRung_eq_none fun j hjlo hjhi hjok =>
    hnone j ((State.canReplace_iff hshare habove j).mpr ⟨hjlo, hjhi, hjok⟩)]
  simp only [State.predictedTime_of_pos hshare, timeBelow_some]

end Replacement

/-! ### The examination (R167 to R169) -/

/-- The conditions of R167 for the remaining time to be looked at. -/
theorem State.examinable_iff (s : State) (i : SessionId) (f : FetchRecord) : s.examinable i f = true ↔
    s.settings.abandonment = true ∧ f.state = .active ∧ (s.session i).floor < f.rung ∧ f.replacementMark = false ∧
      f.received < f.expected ∧ (s.session i).state = .playing := by
  simp [State.examinable, and_assoc]

section Examination

variable {s : State} {i : SessionId} {f : FetchRecord}

theorem State.examine_noFetch (hf : (s.session i).fetch = none) : s.examine i = none := by rw [State.examine, hf]

theorem State.examine_examinable (hf : (s.session i).fetch = some f) (h : s.examinable i f = true) : s.examine i =
    let remaining := transferTime (f.expected - f.received) (s.share i)
    if timeWithin remaining (s.level i) then none else s.replacementRung i f remaining := by
  simp only [State.examine, hf, h, if_true]

/-- At share 0 the remaining time is unbounded, and so no rung would be there before it (R168, R169). -/
theorem State.examine_share_zero (hf : (s.session i).fetch = some f) (h : s.share i = 0) : s.examine i = none := by
  cases hexam : s.examinable i f with
  | false => exact State.examine_ineligible hf hexam
  | true =>
    rw [State.examine_examinable hf hexam, h, transferTime_share_zero]
    exact s.replacementRung_unbounded i f

/-- A fetch that the level outlasts is kept, and any other one gives way to its replacement rung (R168, R169). -/
theorem State.examine_eligible (hf : (s.session i).fetch = some f) (h : s.examinable i f = true) (hshare : 0 < s.share i) :
    s.examine i = if s.remainingMs i f ≤ s.level i then none
      else s.replacementRung i f (some (s.remainingMs i f)) := by
  rw [State.examine_examinable hf h, transferTime_of_pos _ hshare]
  simp only [timeWithin_some]
  rfl

section Abandoning

variable (hf : (s.session i).fetch = some f) (h : s.examinable i f = true) (hshare : 0 < s.share i)
  (hlong : s.level i < s.remainingMs i f)
include hf h hshare hlong

/-- An eligible fetch that the level does not outlast gives way to its replacement rung, if it has one. -/
theorem State.examine_abandons : (s.session i).floor < f.rung ∧
    s.examine i = s.replacementRung i f (some (s.remainingMs i f)) := by
  obtain ⟨-, -, habove, -⟩ := (s.examinable_iff i f).mp h
  exact ⟨habove, (State.examine_eligible hf h hshare).trans (if_neg hlong.not_ge)⟩

theorem State.examine_highest {k : Nat} (hk : s.canReplace i f k) (hmax : ∀ j, s.canReplace i f j → j ≤ k) :
    s.examine i = some k := by
  obtain ⟨habove, hexamine⟩ := State.examine_abandons hf h hshare hlong
  exact hexamine.trans (State.replacementRung_highest hshare habove hk hmax)

theorem State.examine_floor (hnone : ∀ k, ¬ s.canReplace i f k) : s.examine i =
    if s.predictedMs i (s.session i).floor < s.remainingMs i f then some (s.session i).floor else none := by
  obtain ⟨habove, hexamine⟩ := State.examine_abandons hf h hshare hlong
  exact hexamine.trans (State.replacementRung_floor hshare habove hnone)

end Abandoning

end Examination

/-! ### The PROGRESS that abandons (R150, R170) -/

theorem State.level_progressed (s : State) (i : SessionId) (f : FetchRecord) (count : Nat) :
    (s.progressed i f count).level i = s.level i := by
  rw [State.level, s.session_progressed]
  rfl

/-- The urgency the arbiter has been told of does not depend on the fetch (R132). -/
theorem State.toldUrgent_progressed (s : State) (i : SessionId) (f : FetchRecord) (count : Nat) :
    (s.progressed i f count).toldUrgent i = s.toldUrgent i := by
  rw [Bool.eq_iff_iff, State.toldUrgent_iff, State.toldUrgent_iff, State.urgent_iff, State.urgent_iff, s.level_progressed,
    s.session_progressed]
  rfl

theorem State.examineAfterProgress_kept {s : State} {i : SessionId} (h : s.examine i = none) :
    s.examineAfterProgress i = s := by rw [State.examineAfterProgress, h]

theorem State.examineAfterProgress_abandoned {s : State} {i : SessionId} {k : Nat} (h : s.examine i = some k) :
    s.examineAfterProgress i = (s.abandonedTo i k).reexamine i (s.toldUrgent i) true := by
  rw [State.examineAfterProgress, h]
  rfl

/-- The record and the pending set that an abandonment at a PROGRESS leaves (R157, R158, R170). -/
theorem State.standing_abandonedTo_progressed (s : State) (i : SessionId) (f : FetchRecord) (count k : Nat) :
    ((s.progressed i f count).abandonedTo i k).standing i =
      ({ s.session i with fetch := none, upHold := 0, rungLimit := some (.exact k) },
        (s.notices i).afterEnding f.tag (some .abandon)) := by
  have hsession := s.session_progressed i f count
  rw [State.standing_abandonedTo_same _ (congrArg Session.fetch hsession), hsession]
  rfl

/-- Settles O38: the examination case by case, by `State.examine_highest` and `State.examine_floor` where the level does not
outlast the fetch, and a PROGRESS above Rcv by whether its examination keeps the fetch. -/
theorem progressMayAbandon : Obligations.ProgressMayAbandon := by
  refine ⟨fun i s => State.examine_noFetch, fun i f best s hf => ?_, fun i f count s hs hopen hf hlt => ?_⟩
  · intro r share remaining time good eligible
    have heligible : eligible ↔ s.examinable i f = true ∧ 0 < s.share i := by
      rw [State.examinable_iff]
      simp only [and_assoc]
      rfl
    refine ⟨fun h => ?_, fun h hin => ?_, fun h hlong hgood hmax => ?_, fun h hlong hnone hfloor => ?_,
      fun h hlong hnone hfloor => ?_⟩
    · obtain hzero | hshare := Nat.eq_zero_or_pos (s.share i)
      · exact State.examine_share_zero hf hzero
      · exact State.examine_ineligible hf (Bool.eq_false_iff.mpr fun hexam => h (heligible.mpr ⟨hexam, hshare⟩))
    all_goals obtain ⟨hexam, hshare⟩ := heligible.mp h
    · exact (State.examine_eligible hf hexam hshare).trans (if_pos hin)
    · exact State.examine_highest hf hexam hshare hlong hgood hmax
    · exact (State.examine_floor hf hexam hshare hlong hnone).trans (if_pos hfloor)
    · exact (State.examine_floor hf hexam hshare hlong hnone).trans (if_neg hfloor.not_gt)
  · intro u leaves
    have hrun : leaves (u.examineAfterProgress i) :=
      exec_progress hs hopen ((State.serveProgress_matched hf _).trans
        (congrArg (·, Answer.plain) (State.takeProgress_above hf hlt)))
    refine ⟨fun hkept => State.examineAfterProgress_kept hkept ▸ hrun, fun k hk => ⟨?_, ?_⟩⟩
    · refine ⟨_, State.handedOver_reexamine _ i _ true, ?_⟩
      rw [State.examineAfterProgress_abandoned hk] at hrun
      exact s.toldUrgent_progressed i f count.toNat ▸ hrun
    · exact Prod.ext_iff.mp (s.standing_abandonedTo_progressed i f count.toNat k)

end Sys2Proof.Machine

/-! O2, O3, O4, O5, O54, O60. The pins: what a pin reset holds, the release of NRST, the first rise of RDY, and that no event is
taken while NRST is low (R1, R13, R25, R27, R36, R83, R180). -/

namespace Sys2Proof.Machine

open Sys2Proof

/-! ### The pins (R1, R13, R180) -/

/-- Settles O2. -/
theorem pinResetHoldsResetValues : Obligations.PinResetHoldsResetValues := by
  intro s
  have hblank : ∀ i, s.held.session i = Session.blank := fun i => Four.get_const _ i
  have hslots : ∀ k, s.held.arbiter.slots.get k = none := fun k => Four.get_const _ k
  have hdone : ∀ k, s.held.arbiter.doneGrants.get k = none := fun k => Four.get_const _ k
  have hnotices : ∀ i, s.held.notices i = NoticeSet.empty := fun i => Four.get_const _ i
  exact ⟨s.held, rfl, rfl, rfl, rfl, rfl, hblank, rfl, hslots, rfl, hdone, rfl, rfl, rfl, rfl, rfl, rfl, rfl, rfl, rfl, rfl,
    rfl, hnotices, rfl, rfl, rfl, rfl, rfl, rfl, rfl, rfl, rfl, rfl⟩

/-- Settles O3: a release with NRST low is `State.release`, whose line rate is read from BAUD. -/
theorem nrstReleaseStartsPart : Obligations.NrstReleaseStartsPart := by
  intro baudHigh s
  refine ⟨fun hlow => ?_, fun hhigh => congrArg Host.Outcome.next (if_pos hhigh)⟩
  have hexec : exec (.nrstRelease baudHigh) s = .next (s.release baudHigh) :=
    congrArg Host.Outcome.next (if_neg (by simp [hlow]))
  rw [hexec]
  rfl

theorem State.rdy_iff {s : State} (hn : s.nrstHigh = true) (hr : s.link.rdyRisen = true) :
    s.rdy = true ↔ s.link.replies.length ≤ 2 := by simp [State.rdy, hn, hr]

theorem State.fallRdy_due {s : State} (h : s.link.rdyExpiry = some s.partTime) :
    s.fallRdy = { s with link := { s.link with rdyExpiry := none, rdyRisen := true } } := if_pos ((isDue_iff _ _).mpr h)

/-- Settles O4. -/
theorem rdyRisesAtItsExpiry : Obligations.RdyRisesAtItsExpiry := by
  intro s hn hdue
  refine ⟨_, ?_, rfl, State.rdy_iff hn rfl⟩
  rw [← State.fallRdy_due hdue]
  exact congrArg Host.Outcome.next (if_pos hn)

/-! ### While NRST is low (R180) -/

theorem whileRunning_low {s : State} (h : s.nrstHigh = false) (t : State) : whileRunning s t = .next s :=
  congrArg Host.Outcome.next (if_neg (by simp [h]))

/-- While NRST is low the receiver takes nothing, neither a character nor a frame (R5, R180). -/
theorem State.receives_low {s : State} (h : s.nrstHigh = false) : s.receives = false := by simp [State.receives, h]

/-- An event that is no request and no change of NRST (R180). -/
theorem exec_event_low {s : State} {cmd : Instr} (hlow : s.nrstHigh = false) (hreq : requestOf cmd = none)
    (hreset : cmd ≠ .pinReset) (hrelease : ∀ b, cmd ≠ .nrstRelease b) : exec cmd s = .next s := by
  cases cmd <;> cases hreq
  case pinReset => exact absurd rfl hreset
  case nrstRelease b => exact absurd rfl (hrelease b)
  case characterReceived stopHigh b =>
    refine congrArg Host.Outcome.next ?_
    rw [s.receive_ignored b (State.receives_low hlow), ite_self]
  all_goals exact whileRunning_low hlow _

/-- Settles O5: a request is its frame's bytes, which the receiver ignores, and any other event is taken only while the part
runs. -/
theorem noEventWhileNrstLow : Obligations.NoEventWhileNrstLow := by
  intro cmd s hlow hreset hrelease
  cases hreq : requestOf cmd with
  | none => exact exec_event_low hlow hreq hreset hrelease
  | some request => rw [exec_request hreq, State.receiveRequest, s.receiveAll_ignored _ (State.receives_low hlow)]

/-! ### Who writes the pin and the queue of commands (R180, log 2) -/

/-- The level of NRST and the queue of commands, which no block writes, stand as they were. -/
structure OutsideKept (s t : State) : Prop where
  nrstHigh : t.nrstHigh = s.nrstHigh
  pending : t.pending = s.pending

namespace OutsideKept

variable {s t u : State}

theorem refl (s : State) : OutsideKept s s := ⟨rfl, rfl⟩

theorem trans (h : OutsideKept s t) (k : OutsideKept t u) : OutsideKept s u :=
  ⟨k.nrstHigh.trans h.nrstHigh, k.pending.trans h.pending⟩

theorem ite {c : Prop} [Decidable c] (h : OutsideKept s t) (k : OutsideKept s u) : OutsideKept s (if c then t else u) := by
  split <;> assumption

theorem foldl {α : Type} {f : State → α → State} (hf : ∀ t a, OutsideKept t (f t a)) (l : List α) (s : State) :
    OutsideKept s (l.foldl f s) := by
  induction l generalizing s with
  | nil => exact refl s
  | cons a l ih => exact (hf s a).trans (ih _)

/-- What an owner does. -/
theorem owner (h : OutsideKept s t) (k : NoticesOnly t u) : OutsideKept s u := h.trans ⟨k.nrstHigh, k.pending⟩

/-- The transmitter's choice. -/
theorem choice (h : OutsideKept s t) (k : ChoiceOnly t u) : OutsideKept s u := h.trans ⟨k.nrstHigh, k.pending⟩

theorem leaveIdle (s : State) : OutsideKept s s.leaveIdle := (refl s).choice s.leaveIdle_only

/-! The receiver and the transmitter (R3 to R7, R12, R19). -/

theorem setLink (h : OutsideKept s t) (l : ControlLink) : OutsideKept s (t.setLink l) := h.trans ⟨rfl, rfl⟩

theorem checkFrame (s : State) (kind target len : Byte) (p : List Byte) (sum : Byte) :
    OutsideKept s (s.checkFrame kind target len p sum) := by
  unfold State.checkFrame
  split
  · exact (refl s).setLink _
  · split
    · exact (refl s).setLink _
    · next k _ => exact ite ((refl s).setLink _) (((refl s).owner (s.serve_noticesOnly k target p)).setLink _)

theorem completeFrame (s : State) (kind target len : Byte) (p : List Byte) (sum : Byte) :
    OutsideKept s (s.completeFrame kind target len p sum) := by
  have hchosen : OutsideKept s (if s.clearsNext kind target len p sum then s else s.leaveIdle) := ite (refl s) (leaveIdle s)
  exact ite (hchosen.setLink _) (hchosen.trans (checkFrame _ _ _ _ _ _))

theorem transmitReply (s : State) : OutsideKept s s.transmitReply := by
  unfold State.transmitReply
  split
  · exact (refl s).setLink _
  all_goals exact refl s

theorem takeByte (s : State) (b : Byte) : OutsideKept s (s.takeByte b) := by
  have hmove : ∀ f, OutsideKept s (s.moveFramer f) := fun _ => (refl s).setLink _
  unfold State.takeByte
  split
  · exact ite (hmove _) (refl s)
  · exact hmove _
  · exact hmove _
  · exact ite (hmove _) (hmove _)
  · exact ite (hmove _) (hmove _)
  · exact (((refl s).setLink _).trans (completeFrame s.resetFramer _ _ _ _ _)).trans (transmitReply _)

theorem receive (s : State) (b : Byte) : OutsideKept s (s.receive b) := ite (takeByte s b) (refl s)

theorem endFrame (s : State) : OutsideKept s s.endFrame := by
  unfold State.endFrame
  split
  · exact refl s
  all_goals exact (refl s).setLink _

/-! The expiries, the contention code and the advance (R25 to R31, R66 to R68, R88, R156). -/

theorem fallGap (s : State) : OutsideKept s s.fallGap := ite ((refl s).setLink _) (refl s)

theorem fallRdy (s : State) : OutsideKept s s.fallRdy := ite ((refl s).setLink _) (refl s)

theorem fallActivity (s : State) (i : SessionId) : OutsideKept s (s.fallActivity i) := by
  unfold State.fallActivity
  split
  · exact refl s
  · exact ite ((leaveIdle s).owner ((NoticesOnly.refl _).failFetch i _ _)) (refl s)

theorem fallStall (s : State) (i : SessionId) : OutsideKept s (s.fallStall i) :=
  ite ((leaveIdle s).owner (s.leaveIdle.stallNow_noticesOnly i)) (refl s)

theorem fallLow (s : State) (i : SessionId) : OutsideKept s (s.fallLow i) :=
  ite ((leaveIdle s).owner (s.leaveIdle.lowNow_noticesOnly i)) (refl s)

theorem fallRefill (s : State) (i : SessionId) : OutsideKept s (s.fallRefill i) :=
  ite ((leaveIdle s).owner (s.leaveIdle.refillNow_noticesOnly i)) (refl s)

theorem fallWindow (s : State) : OutsideKept s s.fallWindow :=
  ite ((leaveIdle s).owner s.leaveIdle.windowNow_noticesOnly) (refl s)

theorem dealWithSample (s : State) (code : Code) : OutsideKept s (s.dealWithSample code) := by
  have hnoted : OutsideKept s (s.leaveIdle.setContention { s.contention with lastSample := some code }) :=
    (leaveIdle s).trans ⟨rfl, rfl⟩
  exact ite (hnoted.owner (State.acceptCode_noticesOnly _ code)) hnoted

theorem settleSample (s : State) : OutsideKept s s.settleSample := by
  unfold State.settleSample
  split
  · exact refl s
  · exact OutsideKept.trans (t := s.setContention { s.contention with held := none }) ⟨rfl, rfl⟩ (dealWithSample _ _)

theorem takeAllDue (s : State) : OutsideKept s s.takeAllDue := by
  have hbefore : OutsideKept s s.fallGap.fallRdy.settleSample.fallWindow :=
    (((fallGap s).trans (fallRdy _)).trans (settleSample _)).trans (fallWindow _)
  have hsession : ∀ t i, OutsideKept t ((((State.fallActivity t i).fallStall i).fallRefill i).fallLow i) := fun t i =>
    (((fallActivity t i).trans (fallStall _ i)).trans (fallRefill _ i)).trans (fallLow _ i)
  exact (hbefore.trans (foldl hsession Idx4.all _)).trans (leaveIdle _)

theorem advanceAs (s : State) (how : Advance) : OutsideKept s (s.advanceAs how) := by
  have hadvanced : OutsideKept s s.advance := (takeAllDue s).trans ⟨rfl, rfl⟩
  cases how with
  | atOnce cc => exact hadvanced.trans (dealWithSample _ _)
  | hold cc => exact hadvanced.trans ⟨rfl, rfl⟩
  | settle => exact settleSample s

/-! Every command but those of the pin (R180). -/

theorem execEvent {cmd : Instr} (hreq : requestOf cmd = none) (hreset : cmd ≠ .pinReset)
    (hrelease : ∀ b, cmd ≠ .nrstRelease b) (h : exec cmd s = .next t) : OutsideKept s t := by
  cases cmd <;> cases hreq <;> cases h
  case pinReset => exact absurd rfl hreset
  case nrstRelease b => exact absurd rfl (hrelease b)
  case rdyFirstRise => exact ite (fallRdy s) (refl s)
  case partTimeAdvance how => exact ite (advanceAs s how) (refl s)
  case interByteGapExpiry => exact ite (fallGap s) (refl s)
  case activityExpiry i => exact ite (fallActivity s i) (refl s)
  case stallExpiry i => exact ite (fallStall s i) (refl s)
  case lowExpiry i => exact ite (fallLow s i) (refl s)
  case refillExpiry i => exact ite (fallRefill s i) (refl s)
  case windowExpiry => exact ite (fallWindow s) (refl s)
  case frameSent => exact ite ((endFrame s).choice s.endFrame.chooseFrame_only) (refl s)
  case characterReceived stopHigh b => exact ite (receive s b) (refl s)

theorem exec {cmd : Instr} (hreset : cmd ≠ .pinReset) (hrelease : ∀ b, cmd ≠ .nrstRelease b)
    (h : exec cmd s = .next t) : OutsideKept s t := by
  cases hreq : requestOf cmd with
  | none => exact execEvent hreq hreset hrelease h
  | some request =>
    rw [exec_request hreq] at h
    cases h
    exact foldl receive _ s

end OutsideKept

/-! ### O54 -/

theorem State.held_heldWhileLow (s : State) : HeldWhileLow s.held := fun _ => rfl

/-- A release leaves NRST high (R180). -/
theorem State.release_heldWhileLow (s : State) (baudHigh : Bool) : HeldWhileLow (s.release baudHigh) := nofun

/-- Every command keeps it: no command but PIN_RESET drives NRST low, and while it is low no event is taken. -/
theorem HeldWhileLow.exec {s t : State} {cmd : Instr} (hs : HeldWhileLow s) (h : exec cmd s = .next t) : HeldWhileLow t := by
  by_cases hreset : cmd = .pinReset
  · subst hreset
    cases h
    exact s.held_heldWhileLow
  by_cases hrelease : ∃ b, cmd = .nrstRelease b
  · obtain ⟨b, rfl⟩ := hrelease
    cases h
    split
    · exact hs
    · exact s.release_heldWhileLow b
  have hother : ∀ b, cmd ≠ .nrstRelease b := not_exists.mp hrelease
  intro hlow
  have hwasLow : s.nrstHigh = false := (OutsideKept.exec hreset hother h).nrstHigh.symm.trans hlow
  cases h.symm.trans (noEventWhileNrstLow cmd s hwasLow hreset hother)
  exact hs hwasLow

/-- Settles O54. -/
theorem heldWhileLowKept : Obligations.HeldWhileLowKept := by
  intro s t hs hstep
  unfold step at hstep
  split at hstep
  · cases hstep; exact hs
  · next rest _ =>
    have hrest : HeldWhileLow { s with pending := rest } := fun hlow => by rw [hs hlow]
    exact hrest.exec hstep

/-! ### O60 -/

/-- Settles O60: the state a machine starts in is the one that a pin reset holds. -/
theorem invariantsHoldAtReset : Obligations.InvariantsHoldAtReset := by
  unfold Obligations.InvariantsHoldAtReset
  intro s
  have hlevel : LevelInvariant s := s.held_levelInvariant
  obtain ⟨htime, hmatch, horder, hslots, hcounts⟩ := (levelInvariant_iff s).mp hlevel
  obtain ⟨hfit, hserve, hgap⟩ : LinkServes s := .ofQuiet rfl rfl rfl rfl
  have hratios : RatiosInRange s := fun i => by
    rw [show s.session i = Session.blank from Four.get_const _ i]
    exact nofun
  exact ⟨hfit, hserve, hgap, s.held_heldWhileLow, hslots, rfl, .of_queue_nil rfl, .of_blank rfl, hmatch, htime,
    queueIsWanting_of_blank rfl rfl, hratios, horder, hcounts⟩

end Sys2Proof.Machine

/-! O16. CONFIGURE: every field brought into its range, and all twelve settings replaced in one act or the request refused with
BUSY (R23, R24, R175, R176). -/

namespace Sys2Proof.Machine

open Sys2Proof

/-! ### The settings a CONFIGURE puts in force (R34, R175) -/

theorem Margins.clamped_eq (m : Margins) : m.clamped =
    ⟨max 32 (min 256 m.m0), max 32 (min 256 m.m1), max 32 (min 256 m.m2), max 32 (min 256 m.m3), max 32 (min 256 m.m4),
      max 32 (min 256 m.m5), max 32 (min 256 m.m6)⟩ := by
  simp (disch := decide) only [Margins.clamped, clamp_eq_max_min]

/-- The clamps of R175, as the least and greatest of the bounds and the values. -/
theorem ConfigRequest.settings_eq (c : ConfigRequest) : c.settings =
    { slotCount := max 1 (min 4 c.slotCount)
      window := max 100 (min 2000 c.window)
      fastShift := max 1 (min 4 c.fastShift)
      slowShift := max (max 1 (min 4 c.fastShift) + 1) (min 6 c.slowShift)
      margins := ⟨max 32 (min 256 c.margins.m0), max 32 (min 256 c.margins.m1), max 32 (min 256 c.margins.m2),
        max 32 (min 256 c.margins.m3), max 32 (min 256 c.margins.m4), max 32 (min 256 c.margins.m5),
        max 32 (min 256 c.margins.m6)⟩
      opening := max 64 (min 1000000 c.opening)
      fit := max 128 (min 256 c.fit)
      activityTimeout := max 500 (min 30000 c.activityTimeout)
      retryLimit := min 7 c.retryLimit
      upHoldNeeded := max 1 (min 8 c.upHold)
      preemption := decide (1 ≤ c.preemption)
      abandonment := decide (1 ≤ c.abandonment) } := by
  have hslow : clamp 1 4 c.fastShift + 1 ≤ 6 := Nat.succ_le_succ ((clamp_le (by decide)).trans (by decide))
  simp only [ConfigRequest.settings, clamp_eq_max_min hslow, clamp_zero, Margins.clamped_eq]
  simp (disch := decide) only [clamp_eq_max_min]
  rfl

/-! ### The settings as a reply carries them (R24) -/

theorem Settings.fields_length (c : Settings) : c.fields.length = 31 := by
  simp only [Settings.fields, put8, put16, put32, putFlag, bytes16, List.length_append, List.length_cons, List.length_nil]

theorem Settings.inRange.margins_le {c : Settings} (h : c.inRange) :
    c.margins.m0 ≤ 256 ∧ c.margins.m1 ≤ 256 ∧ c.margins.m2 ≤ 256 ∧ c.margins.m3 ≤ 256 ∧ c.margins.m4 ≤ 256 ∧
      c.margins.m5 ≤ 256 ∧ c.margins.m6 ≤ 256 := by
  obtain ⟨_, _, _, _, _, _, _, _, hmargins, _⟩ := h
  have hle : ∀ k : Code, k ≠ 7#3 → c.margins.at k ≤ 256 := fun k hk => (hmargins k hk).2
  exact ⟨hle 0#3 (by decide), hle 1#3 (by decide), hle 2#3 (by decide), hle 3#3 (by decide), hle 4#3 (by decide),
    hle 5#3 (by decide), hle 6#3 (by decide)⟩

/-- A one-byte quantity that fits is read as it was put. -/
theorem toNat_put8 {n : Nat} (h : n ≤ 255) : (BitVec.ofNat 8 (min n 0xFF)).toNat = n := by
  rw [Nat.min_eq_left h, BitVec.toNat_ofNat, Nat.mod_eq_of_lt (Nat.lt_succ_of_le h)]

theorem join_put16 {n : Nat} (h : n ≤ 65535) :
    (BitVec.ofNat 8 (min n 0xFFFF)).toNat + 256 * (BitVec.ofNat 8 (min n 0xFFFF / 256)).toNat = n := by
  rw [Nat.min_eq_left h, join16 n (Nat.lt_succ_of_le h)]

theorem join_put32 {n : Nat} (h : n ≤ 4294967295) :
    (BitVec.ofNat 8 (min n 0xFFFFFFFF)).toNat + 256 * (BitVec.ofNat 8 (min n 0xFFFFFFFF / 256)).toNat +
      65536 * ((BitVec.ofNat 8 (min n 0xFFFFFFFF / 65536)).toNat +
        256 * (BitVec.ofNat 8 (min n 0xFFFFFFFF / 65536 / 256)).toNat) = n := by
  rw [Nat.min_eq_left h, join32 n (Nat.lt_succ_of_le h)]

theorem toNat_flag (b : Bool) : (if b = true then 1#8 else 0#8).toNat = b.toNat := by cases b <;> rfl

/-- Settings in range are read from their 31 bytes as they were put (R24, 01 §1.11). -/
theorem Settings.ofPayload_fields {c : Settings} (h : c.inRange) : ConfigRequest.ofPayload c.fields = c.asRequest := by
  obtain ⟨h0, h1, h2, h3, h4, h5, h6⟩ := h.margins_le
  obtain ⟨_, hslots, _, hwindow, _, hfast, _, hslow, _, _, hopening, _, hfit, _, htimeout, hretry, _, hhold⟩ := h
  simp (disch := omega) only [ConfigRequest.ofPayload, Settings.asRequest, Settings.fields, put8, put16, put32, putFlag,
    bytes16, field16, field32, byteAt, List.cons_append, List.nil_append, List.getD_cons_zero, List.getD_cons_succ,
    toNat_put8, join_put16, join_put32, toNat_flag]

/-! ### The slot-count check (R176) -/

theorem State.configureBusy_iff (s : State) (c : ConfigRequest) : s.configureBusy c = true ↔
    c.settings.slotCount ≠ s.settings.slotCount ∧ ∃ i, (s.session i).fetch ≠ none := by
  simp [State.configureBusy, State.anyFetch, s.hasFetch_eq, Idx4.mem_all]

theorem State.serveConfigure_busy {s : State} {c : ConfigRequest} (h : s.configureBusy c = true) :
    s.serveConfigure c = (s, .refuse .busy) := if_pos h

theorem State.serveConfigure_taken {s : State} {c : ConfigRequest} (h : ¬ s.configureBusy c = true) :
    s.serveConfigure c = (s.setSettings c.settings,
      ⟨if c.settings.asRequest = c then .ok else .clamped, c.settings.fields⟩) := by
  rw [State.serveConfigure, if_neg h]
  simp only [Status1.ofSame, beq_iff_eq]

/-- A CONFIGURE at a part that is ready for it (R9, R23). -/
theorem exec_configure {s core : State} {c : ConfigFields} {a : Answer} (hs : s.linkReady)
    (hserve : s.serveConfigure (configRequest c) = (core, a)) :
    exec (.configure (clean 0x0E#8) c) s = .next (afterReply core (replyTo .configure 0x0E#8 a.status a.fields)) := by
  refine exec_deviceRequest hs rfl (congrArg some (configPayload_length c).symm) ?_
  rw [← ConfigRequest.ofPayload_configPayload] at hserve
  exact congrArg some hserve

/-- Settles O16, by whether the slot-count check refuses the request. -/
theorem configureClampsOrBusy : Obligations.ConfigureClampsOrBusy := by
  intro c s hs m v same
  have hv : (configRequest c).settings = v := (configRequest c).settings_eq
  have hrange : v.inRange := hv ▸ (configRequest c).settings_inRange
  have hbusy := s.configureBusy_iff (configRequest c)
  rw [hv] at hbusy
  refine ⟨fun hfree => ⟨?_, v.fields_length, Settings.ofPayload_fields hrange⟩, fun hcount hfetch => ?_⟩
  · have hnot : ¬ s.configureBusy (configRequest c) = true := fun h => by
      obtain ⟨hcount, i, hi⟩ := hbusy.mp h
      exact hfree.elim hcount fun hnone => hi (hnone i)
    rw [exec_configure hs (State.serveConfigure_taken hnot), hv]
    rfl
  · exact exec_configure hs (State.serveConfigure_busy (hbusy.mpr ⟨hcount, hfetch⟩))

end Sys2Proof.Machine

/-! O17, O18. RESET: every open session closed in one act, and with scope 2 the estimator cleared, the default settings restored,
the hold released and LINK removed (R18, R47, R101, R131, R157, R178, R179, R181). -/

namespace Sys2Proof.Machine

open Sys2Proof

/-! ### What closing a session leaves as it was (R47, R157) -/

/-- Of the state beside the sessions, the pending sets, the slots, the queue and the busy reckoning, closing writes nothing. -/
structure ClosingOnly (s t : State) : Prop extends BusyKept s t where
  nrstHigh : t.nrstHigh = s.nrstHigh
  contention : t.contention = s.contention
  settings : t.settings = s.settings
  pending : t.pending = s.pending
  hold : t.arbiter.hold = s.arbiter.hold
  doneGrants : t.arbiter.doneGrants = s.arbiter.doneGrants
  link : t.link = { s.link with notices := t.link.notices }

namespace ClosingOnly

variable {s t u : State}

theorem refl (s : State) : ClosingOnly s s := ⟨.refl s, rfl, rfl, rfl, rfl, rfl, rfl, rfl⟩

theorem trans (h : ClosingOnly s t) (k : ClosingOnly t u) : ClosingOnly s u :=
  ⟨h.toBusyKept.trans k.toBusyKept, k.nrstHigh.trans h.nrstHigh, k.contention.trans h.contention,
    k.settings.trans h.settings, k.pending.trans h.pending, k.hold.trans h.hold, k.doneGrants.trans h.doneGrants,
    k.link.trans (by rw [h.link])⟩

theorem foldl {α : Type} {f : State → α → State} (hf : ∀ t a, ClosingOnly t (f t a)) (l : List α) (s : State) :
    ClosingOnly s (l.foldl f s) := by
  induction l generalizing s with
  | nil => exact refl s
  | cons a l ih => exact (hf s a).trans (ih _)

theorem endRecord (s : State) (i : SessionId) (why : Option CancelReason) : ClosingOnly s (s.endRecord i why) := by
  have hbusy := BusyKept.endRecord s i why
  cases hf : (s.session i).fetch with
  | none => rw [State.endRecord_none _ _ _ hf]; exact refl s
  | some f =>
    have heq := s.endRecord_eq i why f hf
    exact ⟨hbusy, by rw [heq], by rw [heq], by rw [heq], by rw [heq], by rw [heq], by rw [heq], by rw [heq]⟩

theorem shutIfOpen (s : State) (i : SessionId) : ClosingOnly s (s.shutIfOpen i) := by
  have hshut : ClosingOnly (s.endRecord i none) (s.shut i) := ⟨.beside rfl rfl, rfl, rfl, rfl, rfl, rfl, rfl, rfl⟩
  unfold State.shutIfOpen
  split
  · exact (endRecord s i none).trans hshut
  · exact refl s

end ClosingOnly

/-! ### The sessions and their pending sets (R18, R178) -/

/-- The record as RESET leaves it: shut when it is open (R178). -/
def Session.shutIfOpen (r : Session) (now : PartTime) : Session := if r.isOpen then r.shut now else r

theorem Session.state_shutIfOpen (r : Session) (now : PartTime) : (r.shutIfOpen now).state = .closed := by
  unfold Session.shutIfOpen
  split
  · rfl
  · next hnot => exact not_not.mp (mt (Session.isOpen_iff r).mpr hnot)

theorem State.session_shut (s : State) (i j : SessionId) :
    (s.shut i).session j = if j = i then (s.session i).shut s.partTime else s.session j := by
  have hset : (s.shut i).session j = if j = i then (s.session i).shut s.partTime else (s.endRecord i none).session j := by
    rw [State.shut_eq]
    exact Four.get_set _ _ _ _
  rw [hset]
  split
  · rfl
  · next hj => exact s.session_endRecord_other none hj

theorem State.notices_shut (s : State) (i j : SessionId) :
    (s.shut i).notices j = if j = i then NoticeSet.empty else s.notices j := by
  have hset : (s.shut i).notices j = if j = i then NoticeSet.empty else (s.endRecord i none).notices j := by
    rw [State.shut_eq]
    exact Four.get_set _ _ _ _
  rw [hset]
  split
  · rfl
  · next hj => exact s.notices_endRecord_other none hj

theorem State.session_shutIfOpen (s : State) (i j : SessionId) :
    (s.shutIfOpen i).session j = if j = i then (s.session i).shutIfOpen s.partTime else s.session j := by
  unfold State.shutIfOpen Session.shutIfOpen
  by_cases hopen : (s.session i).isOpen = true
  · rw [if_pos hopen, if_pos hopen, s.session_shut]
  · rw [if_neg hopen, if_neg hopen]
    split
    · next hj => rw [hj]
    · rfl

theorem State.notices_shutIfOpen (s : State) (i j : SessionId) : (s.shutIfOpen i).notices j =
    if j = i then if (s.session i).isOpen then NoticeSet.empty else s.notices i else s.notices j := by
  unfold State.shutIfOpen
  by_cases hopen : (s.session i).isOpen = true
  · rw [if_pos hopen, if_pos hopen, s.notices_shut]
  · rw [if_neg hopen, if_neg hopen]
    split
    · next hj => rw [hj]
    · rfl

/-- Every open session closed one after another, before the arbiter acts (R178). -/
def State.shutAll (s : State) : State := Idx4.all.foldl State.shutIfOpen s

theorem State.shutAll_only (s : State) : ClosingOnly s s.shutAll := .foldl ClosingOnly.shutIfOpen _ s

theorem State.session_shutAll (s : State) (i : SessionId) : s.shutAll.session i = (s.session i).shutIfOpen s.partTime := by
  have hnow : ∀ (t : State) j, (t.shutIfOpen j).partTime = t.partTime := fun t j => (ClosingOnly.shutIfOpen t j).partTime
  simp only [State.shutAll, Idx4.all, List.foldl_cons, List.foldl_nil, State.session_shutIfOpen, hnow]
  cases i <;> rfl

theorem State.notices_shutAll (s : State) (i : SessionId) :
    s.shutAll.notices i = if (s.session i).isOpen then NoticeSet.empty else s.notices i := by
  simp only [State.shutAll, Idx4.all, List.foldl_cons, List.foldl_nil, State.notices_shutIfOpen, State.session_shutIfOpen]
  cases i <;> rfl

/-! ### The slots, the queue and the busy reckoning (R87, R127, R131) -/

/-- With every session closed nobody waits or fetches, and no slot is held (R56, R127, R131). -/
theorem SlotsConsistent.closed {s : State} (hs : SlotsConsistent s) (hclosed : ∀ i, (s.session i).state = .closed) :
    (∀ i, (s.session i).fetch = none) ∧ s.arbiter.queue = [] ∧ s.arbiter.slots = Four.const none := by
  obtain ⟨hwaits, hslots⟩ := hs
  have hnone : ∀ i, (s.session i).fetch = none := fun i => (hwaits.restNoFetch i (.inl (hclosed i))).1
  refine ⟨hnone, s.queue_eq_nil_iff.mpr fun i => (hwaits.restNoFetch i (.inl (hclosed i))).2, Four.ext_get fun k => ?_⟩
  rw [Four.get_const, Option.eq_none_iff_forall_ne_some]
  intro holder hheld
  obtain ⟨f, hf, _⟩ := hslots.ofSlot k holder hheld
  exact nomatch (hnone holder.session).symm.trans hf

/-- Without a record nothing is ACTIVE (R87). -/
theorem ActiveCountMatches.of_no_fetch {s : State} (hs : ActiveCountMatches s) (hnone : ∀ i, (s.session i).fetch = none) :
    s.meter.activeCount = 0 := by
  rw [hs, List.countP_eq_zero]
  exact fun i _ => by simp [ActiveCountMatches.fetchActive_of_none (hnone i)]

/-- With the ACTIVE count down to 0 the busy reckoned at that moment has been stored (R87). -/
theorem BusyKept.meter_of_inactive {s t : State} (h : BusyKept s t) (hcount : t.meter.activeCount = 0) :
    t.meter = { s.meter with activeCount := 0, busyStored := s.meter.busyAt s.partTime } := by
  have hstored : t.meter.busyStored = s.meter.busyAt s.partTime := by
    rw [← h.busy, LinkMeter.busyAt, if_neg (by omega)]
  rw [h.meter, hcount, hstored]

/-! ### RESET of scope 1 (R178) -/

/-- The state with every open session closed, nobody waiting and every slot free (R178). -/
def State.closedDown (s : State) : State := { s with
  sessions := Four.ofFn fun i => (s.session i).shutIfOpen s.partTime
  link := { s.link with notices := Four.ofFn fun i => if (s.session i).isOpen then NoticeSet.empty else s.notices i }
  meter := { s.meter with activeCount := 0, busyStored := s.meter.busyAt s.partTime }
  arbiter := ⟨Four.const none, [], s.arbiter.hold, s.arbiter.doneGrants⟩ }

theorem State.session_closedDown (s : State) (i : SessionId) :
    s.closedDown.session i = (s.session i).shutIfOpen s.partTime :=
  Four.get_ofFn (fun i => (s.session i).shutIfOpen s.partTime) i

theorem State.notices_closedDown (s : State) (i : SessionId) :
    s.closedDown.notices i = if (s.session i).isOpen then NoticeSet.empty else s.notices i :=
  Four.get_ofFn (fun i => if (s.session i).isOpen then NoticeSet.empty else s.notices i) i

/-- What closing may touch, with every session shut, nobody waiting, every slot free and no record ACTIVE, is all closed. -/
theorem ClosingOnly.eq_closedDown {s t : State} (h : ClosingOnly s t)
    (hsession : ∀ i, t.session i = (s.session i).shutIfOpen s.partTime)
    (hnotices : ∀ i, t.notices i = if (s.session i).isOpen then NoticeSet.empty else s.notices i)
    (hslots : t.arbiter.slots = Four.const none) (hqueue : t.arbiter.queue = []) (hcount : t.meter.activeCount = 0) :
    t = s.closedDown := by
  have hsessions : t.sessions = s.closedDown.sessions := Four.ext_get fun i => (hsession i).trans (s.session_closedDown i).symm
  have hsets : t.link.notices = s.closedDown.link.notices :=
    Four.ext_get fun i => (hnotices i).trans (s.notices_closedDown i).symm
  have hlink : t.link = s.closedDown.link := by rw [h.link, hsets]; rfl
  have harbiter : t.arbiter = s.closedDown.arbiter := by
    show SlotArbiter.mk t.arbiter.slots t.arbiter.queue t.arbiter.hold t.arbiter.doneGrants = _
    rw [hslots, hqueue, h.hold, h.doneGrants]
    rfl
  show State.mk t.nrstHigh t.partTime t.link t.contention t.sessions t.meter t.arbiter t.settings t.pending = _
  rw [h.nrstHigh, h.partTime, hlink, h.contention, hsessions, h.meter_of_inactive hcount, harbiter, h.settings, h.pending]
  rfl

theorem State.shutAll_eq {s : State} (hslots : SlotsConsistent s) (hcount : ActiveCountMatches s) :
    s.shutAll = s.closedDown := by
  obtain ⟨hconsistent, hmatches⟩ : SlotsConsistent s.shutAll ∧ ActiveCountMatches s.shutAll :=
    (Moves.shutAll s).keeps (inv := fun t => SlotsConsistent t ∧ ActiveCountMatches t)
      (fun _ _ ⟨hs, hc⟩ h => ⟨h.slotsConsistent hs, h.activeCountMatches hs.1 hc⟩) ⟨hslots, hcount⟩
  have hclosed : ∀ i, (s.shutAll.session i).state = .closed := fun i => by
    rw [s.session_shutAll]
    exact Session.state_shutIfOpen _ _
  obtain ⟨hnone, hqueue, hfree⟩ := hconsistent.closed hclosed
  exact s.shutAll_only.eq_closedDown s.session_shutAll s.notices_shutAll hfree hqueue (hmatches.of_no_fetch hnone)

/-- Closing every session leaves nobody to grant a freed slot to (R135, R178). -/
theorem State.serveResetSessions_eq {s : State} (hslots : SlotsConsistent s) (hcount : ActiveCountMatches s) :
    s.serveResetSessions = (s.closedDown, .plain) := by
  have hgranted : s.closedDown.grantAll = s.closedDown := State.grantAll_of_queue_nil rfl
  rw [← State.shutAll_eq hslots hcount] at hgranted ⊢
  exact congrArg (·, Answer.plain) hgranted

/-- A RESET of scope 1 clears the notice of the session whose turn it is (R18, R181). -/
theorem State.clearsNext_resetSessions {s : State} {i : SessionId} (hturn : s.nextSource = some (.session i)) :
    s.clearsNext (ReqKind.code .reset) 0x0E#8 1#8 [1#8] (frameSum (ReqKind.code .reset) 0x0E#8 1#8 [1#8]) = true := by
  have hlen : ReqKind.requiredLength .reset [1#8] = some 1 := rfl
  have htarget : Target.ofByte 0x0E#8 = some .device := Target.ofByte_device
  simp [State.clearsNext, hlen, htarget, hturn, byteAt]

/-- A RESET of scope 2 clears whatever notice has its turn (R18, R179, R181). -/
theorem State.clearsNext_resetAll {s : State} {src : NoticeSource} (hturn : s.nextSource = some src) :
    s.clearsNext (ReqKind.code .reset) 0x0E#8 1#8 [2#8] (frameSum (ReqKind.code .reset) 0x0E#8 1#8 [2#8]) = true := by
  have hlen : ReqKind.requiredLength .reset [2#8] = some 1 := rfl
  have htarget : Target.ofByte 0x0E#8 = some .device := Target.ofByte_device
  cases src <;> simp [State.clearsNext, hlen, htarget, hturn, byteAt]

/-- Settles O17: RESET finds the state as it stands, and what it leaves is `State.closedDown`. -/
theorem resetSessionsClosesAll : Obligations.ResetSessionsClosesAll := by
  intro s hopen hstands hslots hcount
  have hserve : s.serve .reset 0x0E#8 [1#8] = (s.closedDown, .plain) :=
    (State.serve_device rfl).trans (State.serveResetSessions_eq hslots hcount)
  refine ⟨s.closedDown, ?_, s.session_closedDown, s.notices_closedDown, rfl, rfl, rfl, rfl, rfl, rfl, rfl, rfl⟩
  rw [exec_request rfl, State.receiveRequest_asItStands (k := .reset) (p := [1#8]) hopen rfl
    (hstands.imp_right fun ⟨_, hturn⟩ => State.clearsNext_resetSessions hturn.nextSource), hserve]
  rfl

/-! ### RESET of scope 2 (R101, R179) -/

/-- The state closed down, with the estimator cleared, the default settings in force, the hold released and no LINK pending
(R179). -/
def State.resetWhole (s : State) : State := { s.closedDown with
  meter := s.closedDown.meter.clearEstimator
  settings := Settings.default
  arbiter := { s.closedDown.arbiter with hold := false }
  link := { s.closedDown.link with linkNotice := false } }

theorem State.serveResetAll_eq {s : State} (hslots : SlotsConsistent s) (hcount : ActiveCountMatches s) :
    s.serveResetAll = (s.resetWhole, .plain) := by
  rw [State.serveResetAll, State.serveResetSessions_eq hslots hcount]
  dsimp only
  rw [State.grantAll_of_queue_nil rfl]
  rfl

/-- A RESET of scope 2 that finds the state as it stands. -/
theorem exec_resetAll_asItStands {s : State} (hopen : s.linkOpen) (hslots : SlotsConsistent s) (hcount : ActiveCountMatches s)
    (hstands : s.transmitterServed ∨ ∃ src, s.nextSource = some src) :
    exec (.resetAll (clean 0x0E#8)) s = .next (afterReply s.resetWhole (replyTo .reset 0x0E#8 .ok [])) := by
  have hserve : s.serve .reset 0x0E#8 [2#8] = (s.resetWhole, .plain) :=
    (State.serve_device rfl).trans (State.serveResetAll_eq hslots hcount)
  rw [exec_request rfl, State.receiveRequest_asItStands (k := .reset) (p := [2#8]) hopen rfl
    (hstands.imp_right fun ⟨_, hturn⟩ => State.clearsNext_resetAll hturn), hserve]
  rfl

theorem State.linkOpen.leaveIdle {s : State} (h : s.linkOpen) : s.leaveIdle.linkOpen := by
  obtain ⟨hn, hr, hf, hg, hroom⟩ := h
  have ho := s.leaveIdle_only
  exact ⟨ho.nrstHigh.trans hn, ho.rdyRisen.trans hr, ho.framer.trans hf, ho.gap.trans hg, by rw [ho.replies]; exact hroom⟩

/-- A reply that an idle transmitter begins is its queue's head, begun before a further one is queued or after (R10, R12,
R19). -/
theorem afterReply_sendReply {s : State} {q : Reply} {rest : List Reply} (hidle : s.link.tx = .idle)
    (hr : s.link.replies = q :: rest) (r : Reply) : afterReply (s.sendReply q) r = afterReply s r := by
  simp only [afterReply, State.sendReply, State.setLink, hidle, hr, List.cons_append, List.headD_cons]

/-- With no notice pending, the transmitter's choice makes no difference to what a RESET of scope 2 leaves. -/
theorem afterReply_resetWhole_leaveIdle {s : State} (hnone : s.nextSource = none) (r : Reply) :
    afterReply s.leaveIdle.resetWhole r = afterReply s.resetWhole r := by
  by_cases hidle : s.link.tx = .idle
  · rw [s.leaveIdle_idle hidle]
    obtain ⟨q, rest, hr, hchoice⟩ | ⟨_, _, hchoice⟩ | ⟨_, _, hchoice⟩ := s.chooseFrame_cases <;> rw [hchoice]
    · exact afterReply_sendReply (s := s.resetWhole) hidle hr r
    · rw [s.chooseNotice_none (State.hasNotice_of_nextSource_none hnone)]
  · rw [s.leaveIdle_sending hidle]

/-- A RESET of scope 2, whatever the transmitter has to send (R179, R181). -/
theorem exec_resetAll {s : State} (hopen : s.linkOpen) (hslots : SlotsConsistent s) (hcount : ActiveCountMatches s) :
    exec (.resetAll (clean 0x0E#8)) s = .next (afterReply s.resetWhole (replyTo .reset 0x0E#8 .ok [])) := by
  cases hnext : s.nextSource with
  | some src => exact exec_resetAll_asItStands hopen hslots hcount (.inr ⟨src, hnext⟩)
  | none =>
    have hnoTurn : ∀ src, ¬ s.hasTurn src := fun src hturn => nomatch hnext.symm.trans hturn.nextSource
    have hfollows : s.followsChoice (.resetAll (clean 0x0E#8)) :=
      ⟨hopen, rfl, fun _ _ _ src _ hturn => absurd hturn (hnoTurn src)⟩
    have hmove : Move s s.leaveIdle := .aside (.leaveIdle s)
    rw [exec_leaveIdle hopen.1 hfollows, exec_resetAll_asItStands hopen.leaveIdle (hmove.slotsConsistent hslots)
      (hmove.activeCountMatches hslots.1 hcount) (.inl s.leaveIdle_transmitterServed), afterReply_resetWhole_leaveIdle hnext]

/-- Settles O18: what RESET_ALL leaves is `State.resetWhole`. -/
theorem resetAllClearsEstimator : Obligations.ResetAllClearsEstimator := by
  intro s hopen hslots hcount
  exact ⟨s.resetWhole, exec_resetAll hopen hslots hcount, s.session_closedDown, s.notices_closedDown, rfl, rfl, rfl,
    rfl, rfl, rfl, rfl, rfl⟩

end Sys2Proof.Machine

/-! O1. The queue of commands: a step takes its front, and no command writes it or stops the part (log 2). -/

namespace Sys2Proof.Machine

open Sys2Proof

/-! ### One step (log 2) -/

theorem step_of_front {s : State} {cmd : Instr} {rest : List Instr} (h : s.pending = cmd :: rest) :
    step s = exec cmd { s with pending := rest } := by rw [step, h]

theorem step_of_emptyQueue {s : State} (h : s.pending = []) : step s = .next s := by rw [step, h]

/-! ### Every command (R180 for the pins) -/

/-- No command faults or is refused: each one's meaning answers a next state. -/
theorem exec_completes (cmd : Instr) (s : State) : ∃ t, exec cmd s = .next t := by
  cases hreq : requestOf cmd with
  | some request => exact ⟨_, exec_request hreq s⟩
  | none => cases cmd <;> cases hreq <;> exact ⟨_, rfl⟩

theorem State.held_pending (s : State) : s.held.pending = s.pending := rfl

theorem State.release_pending (s : State) (baudHigh : Bool) : (s.release baudHigh).pending = s.pending := s.held_pending

/-- No command writes the queue: the two of the pin reset carry it over, and any other leaves what is outside the part. -/
theorem exec_pending {s t : State} {cmd : Instr} (h : exec cmd s = .next t) : t.pending = s.pending := by
  by_cases hreset : cmd = .pinReset
  · subst hreset
    cases h
    exact s.held_pending
  by_cases hrelease : ∃ b, cmd = .nrstRelease b
  · obtain ⟨b, rfl⟩ := hrelease
    cases h
    split
    · rfl
    · exact s.release_pending b
  exact (OutsideKept.exec hreset (not_exists.mp hrelease) h).pending

/-- Settles O1. -/
theorem stepRunsFrontElseIdles : Obligations.StepRunsFrontElseIdles := by
  refine ⟨fun _ _ _ => step_of_front, fun _ => step_of_emptyQueue, fun cmd s => ?_⟩
  obtain ⟨t, hnext⟩ := exec_completes cmd s
  exact ⟨t, hnext, exec_pending hnext⟩

end Sys2Proof.Machine
